-- ==== Sys2Proof/Word.lean ====
section
/-! DEFINITION. The plain data every other file builds on: bytes, the numbers that name
records, tables of a fixed number of records, and saturating and clamped arithmetic
(spec/00_scope.md, Conventions). -/

namespace Sys2Proof

/-- One byte of a frame (R196). -/
abbrev Byte := BitVec 8

/-- A 32-bit opaque value: digest, spool reference, order reference, cartridge identity (R197). -/
abbrev Word32 := BitVec 32

/-- Tower link port 0-7 (R171). -/
abbrev PortNo := Fin 8
/-- Riser channel 0-7 (R21). -/
abbrev ChannelNo := Fin 8
/-- Adapter position 0-7 on a riser channel (R22). -/
abbrev PositionNo := Fin 8
/-- Printer number 0-63 (R1). -/
abbrev PrinterNo := Fin 64
/-- Tenant t, 1-16, is held as t - 1 (R39). -/
abbrev TenantNo := Fin 16
/-- Job record number 0-1,023 (R59). -/
abbrev RecordNo := Fin 1024
/-- Callout number 0-191 (R162). -/
abbrev CalloutNo := Fin 192

/-- A fixed number of records of one kind, named by their numbers. -/
structure Table (n : Nat) (α : Type) where
  cells : List α
  size : cells.length = n
deriving DecidableEq, Repr

/-- The record of number `i`. -/
def Table.rd {n : Nat} {α : Type} (t : Table n α) (i : Fin n) : α :=
  t.cells[i.val]'(by rw [t.size]; exact i.isLt)

/-- The table with record `i` replaced. -/
def Table.wr {n : Nat} {α : Type} (t : Table n α) (i : Fin n) (a : α) : Table n α :=
  ⟨t.cells.set i.val a, by rw [List.length_set, t.size]⟩

/-- The table whose record `i` is `f i`. -/
def Table.tab {n : Nat} {α : Type} (f : Fin n → α) : Table n α :=
  ⟨List.ofFn f, List.length_ofFn⟩

/-- The table with the same record under every number. -/
def Table.fill (n : Nat) {α : Type} (a : α) : Table n α :=
  ⟨List.replicate n a, List.length_replicate⟩

/-- The table with `f` applied to every record. -/
def Table.map {n : Nat} {α β : Type} (f : α → β) (t : Table n α) : Table n β :=
  ⟨t.cells.map f, by rw [List.length_map, t.size]⟩

/-- The largest quantity of units or doses that a field holds: three bytes (R39, R117). -/
def unitMax : Nat := 16777215

/-- A sum that saturates at `bound` (Conventions, Arithmetic). -/
def satAdd (bound x y : Nat) : Nat := min (x + y) bound

/-- A value clamped to the range `lo`-`hi` (Conventions, Arithmetic). -/
def clamp (lo hi x : Nat) : Nat := max lo (min x hi)

end Sys2Proof
end

