-- ==== Sys2Proof/Syntax.lean ====
section
/-! DEFINITION. The commands of the controller: one constructor of `Instr` for each row of
spec/opcode_table.json, with the operands the row's rules give it. A frame's body is carried as
the bytes on the link (spec/12_frame_and_record_formats.md), so that a malformed body is a command
too; its fields are read by the meaning of the command. -/

namespace Sys2Proof

/-- The three condition classes (00_scope, Table 1; R150). -/
inductive CondClass where
  | user | supply | service
deriving DecidableEq, Repr

/-- The requests of Table 12.4, in the order of their codes. -/
inductive Request where
  | enrolPrinter
  | disablePrinter
  | enablePrinter
  | removePrinter
  | setSharing
  | queryPrinter
  | resetChannel
  | defineTenant
  | amendTenant
  | removeTenant
  | renewPool
  | queryTenant
  | createAccount
  | amendAccount
  | removeAccount
  | queryAccount
  | renewPeriod
  | submitJob
  | withdraw
  | queryJob
  | takeCompletions
  | querySlot
  | takeOrders
  | confirmOrder
  | cancelOrder
  | setLeadTime
  | queryOrder
  | acknowledgeCallout
  | closeCallout
  | queryCallouts
  | bindPort
  | resetPort
  | queryPort
  | readAttention
  | clearAttention
  | setMask
  | setClock
  | fleetReset
deriving DecidableEq, Repr

/-- The commands. In a riser row `c` is the channel, `k` the adapter position the frame names and
`body` the bytes of its body; `line` is the level of that position's service request line after the
adapter has its answer (R25: the line is an input that the controller does not hold). In a tower
row `port` is the port, `tag` the request tag and `body` the bytes of the body. -/
inductive Instr where
  /-- R193. -/
  | powerOn
  /-- R188, R190. -/
  | secondMark
  /-- R188, R191. -/
  | dayClose
  /-- R189, R71. -/
  | minuteMark
  /-- R72. -/
  | jobExpire
  /-- R87, of the session at `printer`. -/
  | windowTimerExpiry (printer : PrinterNo)
  /-- R95, of the active job of `printer`. -/
  | startTimerExpiry (printer : PrinterNo)
  /-- R159, of the active job of `printer`. -/
  | suspendTimerExpiry (printer : PrinterNo)
  /-- R156, of one class of `printer`. -/
  | graceTimerExpiry (printer : PrinterNo) (cls : CondClass)
  /-- R31, of one adapter position. -/
  | silenceTimerExpiry (c : ChannelNo) (k : PositionNo)
  /-- R28. -/
  | requestAnswerTimeout (c : ChannelNo)
  /-- R36. -/
  | reportCallTimeout (c : ChannelNo)
  /-- R25. -/
  | serviceRequestActive (c : ChannelNo) (k : PositionNo)
  /-- R13, R27. -/
  | describeAnswer (c : ChannelNo) (k : PositionNo) (body : List Byte)
  /-- R27, R93, R94. -/
  | grantAnswer (c : ChannelNo) (k : PositionNo) (body : List Byte)
  /-- R27: an answer to SHOW LIST, END SESSION or REVOKE; `kind` is the kind byte of Table 12.8. -/
  | acknowledgementAnswer (c : ChannelNo) (k : PositionNo) (kind : Byte) (body : List Byte)
  /-- R32. -/
  | probeAnswer (c : ChannelNo) (k : PositionNo) (body : List Byte)
  /-- R30: any frame with its class and kind bytes of Table 12.7. -/
  | strayFrame (c : ChannelNo) (k : PositionNo) (cls kind : Byte) (body : List Byte)
  /-- R29: the bytes of one frame as received on the channel's data line. -/
  | riserFrameDiscarded (c : ChannelNo) (bytes : List Byte)
  /-- R33: an empty frame of report kind NOTHING. -/
  | nothing (c : ChannelNo) (k : PositionNo) (line : Bool)
  /-- R34: a report of any other kind byte, or a NOTHING with a body. -/
  | unknownKind (c : ChannelNo) (k : PositionNo) (kind : Byte) (body : List Byte) (line : Bool)
  /-- R81. -/
  | present (c : ChannelNo) (k : PositionNo) (body : List Byte) (line : Bool)
  /-- R88. -/
  | select (c : ChannelNo) (k : PositionNo) (body : List Byte) (line : Bool)
  /-- R98. -/
  | logout (c : ChannelNo) (k : PositionNo) (body : List Byte) (line : Bool)
  /-- R96. -/
  | jobStart (c : ChannelNo) (k : PositionNo) (body : List Byte) (line : Bool)
  /-- R108, R120. -/
  | sides (c : ChannelNo) (k : PositionNo) (body : List Byte) (line : Bool)
  /-- R158. -/
  | jobResumed (c : ChannelNo) (k : PositionNo) (body : List Byte) (line : Bool)
  /-- R97. -/
  | jobEnd (c : ChannelNo) (k : PositionNo) (body : List Byte) (line : Bool)
  /-- R152. -/
  | condition (c : ChannelNo) (k : PositionNo) (body : List Byte) (line : Bool)
  /-- R129. -/
  | cartridge (c : ChannelNo) (k : PositionNo) (body : List Byte) (line : Bool)
  /-- R173: the bytes of one frame as received on the port. -/
  | towerFrameDiscarded (port : PortNo) (bytes : List Byte)
  /-- R176: a request frame, of any code, on a port with an outstanding request. -/
  | overlap (port : PortNo) (code tag : Byte) (body : List Byte)
  /-- R174 step 3. -/
  | unknownRequest (port : PortNo) (code tag : Byte) (body : List Byte)
  /-- R179. -/
  | transmitterBegin (port : PortNo)
  /-- R175, R176, R179. -/
  | frameSentWhole (port : PortNo)
  /-- ENROL PRINTER, code 10h (Table 12.4). -/
  | enrolPrinter (port : PortNo) (tag : Byte) (body : List Byte)
  /-- DISABLE PRINTER, code 11h (Table 12.4). -/
  | disablePrinter (port : PortNo) (tag : Byte) (body : List Byte)
  /-- ENABLE PRINTER, code 12h (Table 12.4). -/
  | enablePrinter (port : PortNo) (tag : Byte) (body : List Byte)
  /-- REMOVE PRINTER, code 13h (Table 12.4). -/
  | removePrinter (port : PortNo) (tag : Byte) (body : List Byte)
  /-- SET SHARING, code 14h (Table 12.4). -/
  | setSharing (port : PortNo) (tag : Byte) (body : List Byte)
  /-- QUERY PRINTER, code 15h (Table 12.4). -/
  | queryPrinter (port : PortNo) (tag : Byte) (body : List Byte)
  /-- RESET CHANNEL, code 18h (Table 12.4). -/
  | resetChannel (port : PortNo) (tag : Byte) (body : List Byte)
  /-- DEFINE TENANT, code 20h (Table 12.4). -/
  | defineTenant (port : PortNo) (tag : Byte) (body : List Byte)
  /-- AMEND TENANT, code 21h (Table 12.4). -/
  | amendTenant (port : PortNo) (tag : Byte) (body : List Byte)
  /-- REMOVE TENANT, code 22h (Table 12.4). -/
  | removeTenant (port : PortNo) (tag : Byte) (body : List Byte)
  /-- RENEW POOL, code 23h (Table 12.4). -/
  | renewPool (port : PortNo) (tag : Byte) (body : List Byte)
  /-- QUERY TENANT, code 24h (Table 12.4). -/
  | queryTenant (port : PortNo) (tag : Byte) (body : List Byte)
  /-- CREATE ACCOUNT, code 30h (Table 12.4). -/
  | createAccount (port : PortNo) (tag : Byte) (body : List Byte)
  /-- AMEND ACCOUNT, code 31h (Table 12.4). -/
  | amendAccount (port : PortNo) (tag : Byte) (body : List Byte)
  /-- REMOVE ACCOUNT, code 32h (Table 12.4). -/
  | removeAccount (port : PortNo) (tag : Byte) (body : List Byte)
  /-- QUERY ACCOUNT, code 33h (Table 12.4). -/
  | queryAccount (port : PortNo) (tag : Byte) (body : List Byte)
  /-- RENEW PERIOD, code 34h (Table 12.4). -/
  | renewPeriod (port : PortNo) (tag : Byte) (body : List Byte)
  /-- SUBMIT JOB, code 40h (Table 12.4). -/
  | submitJob (port : PortNo) (tag : Byte) (body : List Byte)
  /-- WITHDRAW, code 41h (Table 12.4). -/
  | withdraw (port : PortNo) (tag : Byte) (body : List Byte)
  /-- QUERY JOB, code 42h (Table 12.4). -/
  | queryJob (port : PortNo) (tag : Byte) (body : List Byte)
  /-- TAKE COMPLETIONS, code 43h (Table 12.4). -/
  | takeCompletions (port : PortNo) (tag : Byte) (body : List Byte)
  /-- QUERY SLOT, code 50h (Table 12.4). -/
  | querySlot (port : PortNo) (tag : Byte) (body : List Byte)
  /-- TAKE ORDERS, code 51h (Table 12.4). -/
  | takeOrders (port : PortNo) (tag : Byte) (body : List Byte)
  /-- CONFIRM ORDER, code 52h (Table 12.4). -/
  | confirmOrder (port : PortNo) (tag : Byte) (body : List Byte)
  /-- CANCEL ORDER, code 53h (Table 12.4). -/
  | cancelOrder (port : PortNo) (tag : Byte) (body : List Byte)
  /-- SET LEAD TIME, code 54h (Table 12.4). -/
  | setLeadTime (port : PortNo) (tag : Byte) (body : List Byte)
  /-- QUERY ORDER, code 55h (Table 12.4). -/
  | queryOrder (port : PortNo) (tag : Byte) (body : List Byte)
  /-- ACKNOWLEDGE CALLOUT, code 60h (Table 12.4). -/
  | acknowledgeCallout (port : PortNo) (tag : Byte) (body : List Byte)
  /-- CLOSE CALLOUT, code 61h (Table 12.4). -/
  | closeCallout (port : PortNo) (tag : Byte) (body : List Byte)
  /-- QUERY CALLOUTS, code 62h (Table 12.4). -/
  | queryCallouts (port : PortNo) (tag : Byte) (body : List Byte)
  /-- BIND PORT, code 70h (Table 12.4). -/
  | bindPort (port : PortNo) (tag : Byte) (body : List Byte)
  /-- RESET PORT, code 71h (Table 12.4). -/
  | resetPort (port : PortNo) (tag : Byte) (body : List Byte)
  /-- QUERY PORT, code 72h (Table 12.4). -/
  | queryPort (port : PortNo) (tag : Byte) (body : List Byte)
  /-- READ ATTENTION, code 73h (Table 12.4). -/
  | readAttention (port : PortNo) (tag : Byte) (body : List Byte)
  /-- CLEAR ATTENTION, code 74h (Table 12.4). -/
  | clearAttention (port : PortNo) (tag : Byte) (body : List Byte)
  /-- SET MASK, code 75h (Table 12.4). -/
  | setMask (port : PortNo) (tag : Byte) (body : List Byte)
  /-- SET CLOCK, code 78h (Table 12.4). -/
  | setClock (port : PortNo) (tag : Byte) (body : List Byte)
  /-- FLEET RESET, code 7Fh (Table 12.4). -/
  | fleetReset (port : PortNo) (tag : Byte) (body : List Byte)
deriving DecidableEq, Repr

end Sys2Proof
end

