-- ==== Sys2Proof/WellFormed.lean ====
section
/-! DEFINITION. What makes a command one that a link can deliver as its row says: a body no longer
than the link's limit (R29, R173), and, for the two rows of unknown codes, a code that the tables of
chapter 12 do not name. The meanings do not rest on it: they take every command. -/

namespace Sys2Proof

/-- The largest body of a tower frame (R173). -/
def towerBodyMax : Nat := 120
/-- The largest body of a riser frame (R29). -/
def riserBodyMax : Nat := 48

/-- The body a command carries, empty where it carries none. -/
def Instr.body : Instr → List Byte
  | .describeAnswer _ _ b | .grantAnswer _ _ b | .acknowledgementAnswer _ _ _ b | .probeAnswer _ _ b => b
  | .strayFrame _ _ _ _ b | .unknownKind _ _ _ b _ => b
  | .present _ _ b _ | .select _ _ b _ | .logout _ _ b _ | .jobStart _ _ b _ | .sides _ _ b _ => b
  | .jobResumed _ _ b _ | .jobEnd _ _ b _ | .condition _ _ b _ | .cartridge _ _ b _ => b
  | .overlap _ _ _ b | .unknownRequest _ _ _ b => b
  | .enrolPrinter _ _ b | .disablePrinter _ _ b | .enablePrinter _ _ b | .removePrinter _ _ b => b
  | .setSharing _ _ b | .queryPrinter _ _ b | .resetChannel _ _ b => b
  | .defineTenant _ _ b | .amendTenant _ _ b | .removeTenant _ _ b | .renewPool _ _ b => b
  | .queryTenant _ _ b | .createAccount _ _ b | .amendAccount _ _ b | .removeAccount _ _ b => b
  | .queryAccount _ _ b | .renewPeriod _ _ b | .submitJob _ _ b | .withdraw _ _ b => b
  | .queryJob _ _ b | .takeCompletions _ _ b | .querySlot _ _ b | .takeOrders _ _ b => b
  | .confirmOrder _ _ b | .cancelOrder _ _ b | .setLeadTime _ _ b | .queryOrder _ _ b => b
  | .acknowledgeCallout _ _ b | .closeCallout _ _ b | .queryCallouts _ _ b => b
  | .bindPort _ _ b | .resetPort _ _ b | .queryPort _ _ b | .readAttention _ _ b => b
  | .clearAttention _ _ b | .setMask _ _ b | .setClock _ _ b | .fleetReset _ _ b => b
  | .powerOn | .secondMark | .dayClose | .minuteMark | .jobExpire => []
  | .windowTimerExpiry _ | .startTimerExpiry _ | .suspendTimerExpiry _ | .graceTimerExpiry _ _ => []
  | .silenceTimerExpiry _ _ | .requestAnswerTimeout _ | .reportCallTimeout _ => []
  | .serviceRequestActive _ _ | .riserFrameDiscarded _ _ | .nothing _ _ _ => []
  | .towerFrameDiscarded _ _ | .transmitterBegin _ | .frameSentWhole _ => []

/-- Whether a command is a frame of a riser channel, whose body holds at most 48 bytes (R29). -/
def Instr.onRiser : Instr → Bool
  | .describeAnswer .. | .grantAnswer .. | .acknowledgementAnswer .. | .probeAnswer .. => true
  | .strayFrame .. | .nothing .. | .unknownKind .. | .present .. | .select .. => true
  | .logout .. | .jobStart .. | .sides .. | .jobResumed .. | .jobEnd .. => true
  | .condition .. | .cartridge .. => true
  | .powerOn .. | .secondMark .. | .dayClose .. | .minuteMark .. | .jobExpire .. => false
  | .windowTimerExpiry .. | .startTimerExpiry .. | .suspendTimerExpiry .. | .graceTimerExpiry .. | .silenceTimerExpiry .. => false
  | .requestAnswerTimeout .. | .reportCallTimeout .. | .serviceRequestActive .. | .riserFrameDiscarded .. | .towerFrameDiscarded .. => false
  | .overlap .. | .unknownRequest .. | .transmitterBegin .. | .frameSentWhole .. | .enrolPrinter .. => false
  | .disablePrinter .. | .enablePrinter .. | .removePrinter .. | .setSharing .. | .queryPrinter .. => false
  | .resetChannel .. | .defineTenant .. | .amendTenant .. | .removeTenant .. | .renewPool .. => false
  | .queryTenant .. | .createAccount .. | .amendAccount .. | .removeAccount .. | .queryAccount .. => false
  | .renewPeriod .. | .submitJob .. | .withdraw .. | .queryJob .. | .takeCompletions .. => false
  | .querySlot .. | .takeOrders .. | .confirmOrder .. | .cancelOrder .. | .setLeadTime .. => false
  | .queryOrder .. | .acknowledgeCallout .. | .closeCallout .. | .queryCallouts .. | .bindPort .. => false
  | .resetPort .. | .queryPort .. | .readAttention .. | .clearAttention .. | .setMask .. => false
  | .setClock .. | .fleetReset .. => false

/-- The largest body of the link a command arrives on. -/
def Instr.bodyMax (i : Instr) : Nat := if i.onRiser then riserBodyMax else towerBodyMax

/-- Whether a byte is a report kind of Table 12.8 other than NOTHING. -/
def knownReportKind (kind : Byte) : Bool :=
  decide (16 ≤ kind.toNat) && decide (kind.toNat ≤ 24)

/-- Whether a byte is a request code of Table 12.4. -/
def knownRequestCode (code : Byte) : Bool :=
  [0x10, 0x11, 0x12, 0x13, 0x14, 0x15, 0x18, 0x20, 0x21, 0x22, 0x23, 0x24, 0x30, 0x31, 0x32, 0x33,
   0x34, 0x40, 0x41, 0x42, 0x43, 0x50, 0x51, 0x52, 0x53, 0x54, 0x55, 0x60, 0x61, 0x62, 0x70, 0x71,
   0x72, 0x73, 0x74, 0x75, 0x78, 0x7F].contains code.toNat

/-- A command that its link can deliver as its row says. -/
def Instr.wellFormed (i : Instr) : Bool :=
  decide (i.body.length ≤ i.bodyMax) &&
  match i with
  | .unknownRequest _ code _ _ => !knownRequestCode code
  | .unknownKind _ _ kind body _ => !knownReportKind kind && (kind != 0 || !body.isEmpty)
  | .acknowledgementAnswer _ _ kind _ => kind == 1 || kind == 3 || kind == 4
  | _ => true

end Sys2Proof
end

