-- ==== Sys2Proof/Decode.lean ====
section
/-! DEFINITION. The frames of spec/12_frame_and_record_formats.md as bytes: the check, the tower link
frame, the riser frame, the request codes, and the command that a frame received on a link spells.
No row of spec/opcode_table.json gives bits, so `decodeTableWord` names no command. -/

namespace Sys2Proof

/-- The command that the table's bits spell: the table gives no row any bits. -/
def decodeTableWord (_nbits _w : Nat) : Option Instr := none

/-- The byte of a number below 256; larger numbers lose their high bits. -/
def byteOf (n : Nat) : Byte := BitVec.ofNat 8 n

/-- One bit of the check: generator x^16 + x^12 + x^5 + 1 (R196). -/
def crcBit (reg : BitVec 16) : BitVec 16 :=
  if reg.msb then (reg <<< 1) ^^^ 0x1021#16 else reg <<< 1

/-- One byte of the check, most significant bit first (R196). -/
def crcByte (reg : BitVec 16) (b : Byte) : BitVec 16 :=
  let r := reg ^^^ (b.setWidth 16 <<< 8)
  crcBit (crcBit (crcBit (crcBit (crcBit (crcBit (crcBit (crcBit r)))))))

/-- The check of the bytes after the sync byte up to the last byte of the body (R196). -/
def crc (bytes : List Byte) : BitVec 16 := bytes.foldl crcByte 0xFFFF#16

/-- The check as it is sent, most significant byte first. -/
def checkBytes (bytes : List Byte) : List Byte :=
  [byteOf ((crc bytes).toNat / 256), byteOf ((crc bytes).toNat % 256)]

/-- The sync byte A5h (R196). -/
def syncByte : Byte := 0xA5#8

/-- A tower link frame (Table 12.1), without sync byte, length and check. -/
structure TowerFrame where
  kind : Byte
  code : Byte
  tag : Byte
  outcome : Byte
  reason : Byte
  body : List Byte
deriving DecidableEq, Repr

/-- The bytes a tower frame's check covers. -/
def TowerFrame.covered (f : TowerFrame) : List Byte :=
  [f.kind, f.code, f.tag, f.outcome, f.reason, byteOf f.body.length] ++ f.body

/-- The bytes of a tower frame on the link (Table 12.1). -/
def TowerFrame.bytes (f : TowerFrame) : List Byte :=
  syncByte :: f.covered ++ checkBytes f.covered

/-- The frame received whole from the bytes on a port, if they hold one (R173, R196): what stands
before the sync byte is dropped, the length is at most 120 and agrees, and the check matches. -/
def TowerFrame.receive (bytes : List Byte) : Option TowerFrame :=
  match bytes.dropWhile (· != syncByte) with
  | _ :: kind :: code :: tag :: outcome :: reason :: n :: rest =>
    let f : TowerFrame := ⟨kind, code, tag, outcome, reason, rest.take n.toNat⟩
    if n.toNat ≤ towerBodyMax ∧ (rest.drop n.toNat).take 2 = checkBytes f.covered
        ∧ f.body.length = n.toNat then some f else none
  | _ => none

/-- A riser frame (Table 12.7), without sync byte, length and check. -/
structure RiserFrame where
  position : PositionNo
  cls : Byte
  kind : Byte
  body : List Byte
deriving DecidableEq, Repr

/-- The position that a position byte names: bits 0-2, the others ignored (Table 12.7). -/
def positionOfByte (b : Byte) : PositionNo := ⟨b.toNat % 8, Nat.mod_lt _ (by decide)⟩

/-- The bytes a riser frame's check covers, with the position byte as it was sent. -/
def riserCovered (positionByte cls kind : Byte) (body : List Byte) : List Byte :=
  [positionByte, cls, kind, byteOf body.length] ++ body

/-- The bytes of a riser frame on the channel (Table 12.7). -/
def RiserFrame.bytes (f : RiserFrame) : List Byte :=
  let covered := riserCovered (byteOf f.position.val) f.cls f.kind f.body
  syncByte :: covered ++ checkBytes covered

/-- The frame heard from the bytes on a channel, if they hold one (R29, R196). -/
def RiserFrame.receive (bytes : List Byte) : Option RiserFrame :=
  match bytes.dropWhile (· != syncByte) with
  | _ :: pos :: cls :: kind :: n :: rest =>
    let body := rest.take n.toNat
    if n.toNat ≤ riserBodyMax ∧ (rest.drop n.toNat).take 2 = checkBytes (riserCovered pos cls kind body)
        ∧ body.length = n.toNat then some ⟨positionOfByte pos, cls, kind, body⟩ else none
  | _ => none

/-- The kind byte of a request frame (Table 12.1). -/
def kindRequest : Byte := 0x01#8
/-- The kind byte of an answer. -/
def kindAnswer : Byte := 0x02#8
/-- The kind byte of an attention frame. -/
def kindAttention : Byte := 0x03#8

/-- The code of a request (Table 12.4). -/
def Request.code : Request → Byte
  | .enrolPrinter => 0x10#8
  | .disablePrinter => 0x11#8
  | .enablePrinter => 0x12#8
  | .removePrinter => 0x13#8
  | .setSharing => 0x14#8
  | .queryPrinter => 0x15#8
  | .resetChannel => 0x18#8
  | .defineTenant => 0x20#8
  | .amendTenant => 0x21#8
  | .removeTenant => 0x22#8
  | .renewPool => 0x23#8
  | .queryTenant => 0x24#8
  | .createAccount => 0x30#8
  | .amendAccount => 0x31#8
  | .removeAccount => 0x32#8
  | .queryAccount => 0x33#8
  | .renewPeriod => 0x34#8
  | .submitJob => 0x40#8
  | .withdraw => 0x41#8
  | .queryJob => 0x42#8
  | .takeCompletions => 0x43#8
  | .querySlot => 0x50#8
  | .takeOrders => 0x51#8
  | .confirmOrder => 0x52#8
  | .cancelOrder => 0x53#8
  | .setLeadTime => 0x54#8
  | .queryOrder => 0x55#8
  | .acknowledgeCallout => 0x60#8
  | .closeCallout => 0x61#8
  | .queryCallouts => 0x62#8
  | .bindPort => 0x70#8
  | .resetPort => 0x71#8
  | .queryPort => 0x72#8
  | .readAttention => 0x73#8
  | .clearAttention => 0x74#8
  | .setMask => 0x75#8
  | .setClock => 0x78#8
  | .fleetReset => 0x7f#8

/-- The request of a code, none for a code not in Table 12.4. -/
def Request.ofCode (code : Byte) : Option Request :=
  match code.toNat with
  | 0x10 => some .enrolPrinter
  | 0x11 => some .disablePrinter
  | 0x12 => some .enablePrinter
  | 0x13 => some .removePrinter
  | 0x14 => some .setSharing
  | 0x15 => some .queryPrinter
  | 0x18 => some .resetChannel
  | 0x20 => some .defineTenant
  | 0x21 => some .amendTenant
  | 0x22 => some .removeTenant
  | 0x23 => some .renewPool
  | 0x24 => some .queryTenant
  | 0x30 => some .createAccount
  | 0x31 => some .amendAccount
  | 0x32 => some .removeAccount
  | 0x33 => some .queryAccount
  | 0x34 => some .renewPeriod
  | 0x40 => some .submitJob
  | 0x41 => some .withdraw
  | 0x42 => some .queryJob
  | 0x43 => some .takeCompletions
  | 0x50 => some .querySlot
  | 0x51 => some .takeOrders
  | 0x52 => some .confirmOrder
  | 0x53 => some .cancelOrder
  | 0x54 => some .setLeadTime
  | 0x55 => some .queryOrder
  | 0x60 => some .acknowledgeCallout
  | 0x61 => some .closeCallout
  | 0x62 => some .queryCallouts
  | 0x70 => some .bindPort
  | 0x71 => some .resetPort
  | 0x72 => some .queryPort
  | 0x73 => some .readAttention
  | 0x74 => some .clearAttention
  | 0x75 => some .setMask
  | 0x78 => some .setClock
  | 0x7f => some .fleetReset
  | _ => none

/-- The command of a request frame. -/
def Request.command (r : Request) (port : PortNo) (tag : Byte) (body : List Byte) : Instr :=
  match r with
  | .enrolPrinter => .enrolPrinter port tag body
  | .disablePrinter => .disablePrinter port tag body
  | .enablePrinter => .enablePrinter port tag body
  | .removePrinter => .removePrinter port tag body
  | .setSharing => .setSharing port tag body
  | .queryPrinter => .queryPrinter port tag body
  | .resetChannel => .resetChannel port tag body
  | .defineTenant => .defineTenant port tag body
  | .amendTenant => .amendTenant port tag body
  | .removeTenant => .removeTenant port tag body
  | .renewPool => .renewPool port tag body
  | .queryTenant => .queryTenant port tag body
  | .createAccount => .createAccount port tag body
  | .amendAccount => .amendAccount port tag body
  | .removeAccount => .removeAccount port tag body
  | .queryAccount => .queryAccount port tag body
  | .renewPeriod => .renewPeriod port tag body
  | .submitJob => .submitJob port tag body
  | .withdraw => .withdraw port tag body
  | .queryJob => .queryJob port tag body
  | .takeCompletions => .takeCompletions port tag body
  | .querySlot => .querySlot port tag body
  | .takeOrders => .takeOrders port tag body
  | .confirmOrder => .confirmOrder port tag body
  | .cancelOrder => .cancelOrder port tag body
  | .setLeadTime => .setLeadTime port tag body
  | .queryOrder => .queryOrder port tag body
  | .acknowledgeCallout => .acknowledgeCallout port tag body
  | .closeCallout => .closeCallout port tag body
  | .queryCallouts => .queryCallouts port tag body
  | .bindPort => .bindPort port tag body
  | .resetPort => .resetPort port tag body
  | .queryPort => .queryPort port tag body
  | .readAttention => .readAttention port tag body
  | .clearAttention => .clearAttention port tag body
  | .setMask => .setMask port tag body
  | .setClock => .setClock port tag body
  | .fleetReset => .fleetReset port tag body

/-- The command that the bytes of one frame on a port are (R173, R174 step 3). -/
def Instr.ofTowerBytes (port : PortNo) (bytes : List Byte) : Instr :=
  match TowerFrame.receive bytes with
  | some f =>
    if f.kind = kindRequest then
      match Request.ofCode f.code with
      | some r => r.command port f.tag f.body
      | none => .unknownRequest port f.code f.tag f.body
    else .towerFrameDiscarded port bytes
  | none => .towerFrameDiscarded port bytes

/-- The command that the bytes of one adapter frame on a channel are (Tables 12.7 and 12.8); `line` is
the service request line's level after it. -/
def Instr.ofRiserBytes (c : ChannelNo) (line : Bool) (bytes : List Byte) : Instr :=
  match RiserFrame.receive bytes with
  | none => .riserFrameDiscarded c bytes
  | some ⟨k, cls, kind, body⟩ =>
    match cls.toNat, kind.toNat with
    | 2, 5 => .describeAnswer c k body
    | 2, 2 => .grantAnswer c k body
    | 2, 6 => .probeAnswer c k body
    | 2, 1 | 2, 3 | 2, 4 => .acknowledgementAnswer c k kind body
    | 3, 0x10 => .present c k body line
    | 3, 0x11 => .select c k body line
    | 3, 0x12 => .logout c k body line
    | 3, 0x13 => .jobStart c k body line
    | 3, 0x14 => .sides c k body line
    | 3, 0x15 => .jobResumed c k body line
    | 3, 0x16 => .jobEnd c k body line
    | 3, 0x17 => .condition c k body line
    | 3, 0x18 => .cartridge c k body line
    | 3, 0 => if body.isEmpty then .nothing c k line else .unknownKind c k kind body line
    | 3, _ => .unknownKind c k kind body line
    | _, _ => .strayFrame c k cls kind body

end Sys2Proof
end

