-- ==== Sys2Proof/Config.lean ====
section
/-! DEFINITION. The constants the spec fixes for every JF-32, and the free values the spec leaves
open: constants with no body, of which nothing can be proved. -/

namespace Sys2Proof

/-- The silence timer's limit: 20 s (R22, R31). -/
def Config.silenceLimit : Nat := 20

/-- The answer time of a request or call to a printer that is not enrolled: 2 s, in ms (R26, R33). -/
def Config.plainAnswerTime : Nat := 2000

/-- Lead days and safety days after reset (R146). -/
def Config.leadDays : Nat := 7
def Config.safetyDays : Nat := 2

/-- The number of account records (R47). -/
def Config.accountRecords : Nat := 2048

/-- The code NO ANSWER of the SERVICE class (Table 9.1). -/
def Config.noAnswer : Byte := 255

/-- DESIGN CHOICE (log 12, log 13), safe. The order in which one step takes several records where
the spec names no order: records are taken by rising key. `draw` is the number of the draw, so that
each such step has an order of its own. It has no body: the order is free. -/
opaque Config.orderKey (draw item : Nat) : Nat

/-- The items of a step in a free order: a rearrangement of `items` by `Config.orderKey`. -/
def Config.freeOrder (draw : Nat) (items : List Nat) : List Nat :=
  items.insertionSort fun x y => Config.orderKey draw x ≤ Config.orderKey draw y

end Sys2Proof
end

