-- ==== Sys2Proof/Machine/State.lean ====
section
/-! DEFINITION. The state of the controller: every record, list, counter, timer and line the spec gives
it, the queue of waiting commands, and the state after reset. Plain data throughout. A timer is the
seconds it has left while it runs and absent while it is stopped; a timer at 0 has expired and its
expiry has not been taken yet (log 4). -/

namespace Sys2Proof.Machine

/-- No command faults: the spec gives the controller no fault (log 29). -/
inductive Fault where
deriving DecidableEq, Repr

/-- Why a command has no meaning. -/
inductive Refusal where
  /-- Raised by an arm of `exec` whose command has no meaning yet, by its mnemonic. Safe: the machine stops. -/
  | notModelled (mnemonic : String)
deriving DecidableEq, Repr

/-- One value for each condition class (R150). -/
structure PerClass (α : Type) where
  user : α
  supply : α
  service : α
deriving DecidableEq, Repr

/-- A job's name outside the controller (R61). -/
structure Handle where
  record : RecordNo
  generation : Fin 64
deriving DecidableEq, Repr

/-- What identifies an account in use (R47). -/
structure AccountKey where
  tenant : TenantNo
  number : Nat
deriving DecidableEq, Repr

/-- A reading of the fleet clock (R188). -/
structure Clock where
  day : Nat
  second : Nat
deriving DecidableEq, Repr

/-! ### Printer table (chapter 1, chapter 7) -/

/-- The sharing of a printer (R5); bit t - 1 of the set stands for tenant t. -/
inductive Sharing where
  | dedicated (t : TenantNo)
  | shared (set : BitVec 16)
deriving DecidableEq, Repr

/-- Slot kinds (Table 12.10). -/
inductive SlotKind where
  | blackToner | colourToner | imagingUnit
deriving DecidableEq, Repr

/-- A slot record (Table 7.1). -/
structure Slot where
  kind : SlotKind
  overhead : Nat
  capacity : Nat
  remaining : Nat
  today : Nat
  rate : Nat
  seeded : Bool
  daysToEmpty : Nat
  level : Nat
  identity : Word32
  present : Bool
deriving DecidableEq, Repr

/-- The decoded descriptor (Table 1.1, R9 to R11); the answer time is in ms, the other times in s. -/
structure Descriptor where
  colour : Bool
  large : Bool
  duplex : Bool
  resumable : Bool
  swapKeepsJob : Bool
  floorPercent : Nat
  answerTime : Nat
  window : Nat
  startLimit : Nat
  suspendLimit : Nat
  grace : PerClass Nat
deriving DecidableEq, Repr

/-- The service states of an enrolled printer (R2, R3). -/
inductive Service where
  | inService | draining | disabled
deriving DecidableEq, Repr

/-- What the record of an enrolled printer holds (R1). The slot count is the number of slots. -/
structure Enrolled where
  service : Service
  sharing : Sharing
  descriptor : Descriptor
  codes : PerClass Byte
  grace : PerClass (Option Nat)
  activeJob : Option Handle
  slots : List Slot
deriving DecidableEq, Repr

/-- A printer record: each service state with what R1 says it holds. -/
inductive Printer where
  | absent
  | enrolling (sharing : Sharing) (requester : Option (PortNo × Byte))
  | enrolled (e : Enrolled)
deriving DecidableEq, Repr

/-! ### Riser channels (chapter 2) -/

/-- The mark kinds in their priority order (Table 2.1). -/
inductive MarkKind where
  | revoke | grant | endSession | showList | describe | probe
deriving DecidableEq, Repr

/-- The reasons of END SESSION frames and session ends (Table 5.3, Table 12.9). -/
inductive EndReason where
  | sessionDone | loggedOut | timedOut | moved | takenOver | printerStopped | grantRefused
  | notStarted | outOfService | noAccess | accountBarred | accountRemoved | tenantRemoved
  | channelReset | unknownBadge | printerBusy | accountInSession
deriving DecidableEq, Repr

/-- A position record (R22). -/
structure Position where
  revoke : Bool
  grant : Bool
  endSession : Bool
  showList : Bool
  describe : Bool
  probe : Bool
  endReason : Option EndReason
  resync : Bool
  silence : Option Nat
deriving DecidableEq, Repr

/-- The two reasons of a refusal note (R79). -/
inductive NoteReason where
  | quota | pool
deriving DecidableEq, Repr

/-- A session's refusal note (Table 5.1). -/
structure RefusalNote where
  reason : NoteReason
  tag : Nat
  count : Nat
deriving DecidableEq, Repr

/-- The session states (R79). -/
inductive SessionState where
  | none | showing | releasing
deriving DecidableEq, Repr

/-- A request frame as the controller sent it, with the content Table 2.1 gives its kind. -/
inductive RiserRequest where
  | revoke (handle : Option Handle)
  | grant (handle : Handle) (spool : Word32) (tenant : TenantNo) (resumeFrom : Nat) (colourAsMono : Bool)
  | endSession (reason : Option EndReason) (session : SessionState)
  | showList (session : SessionState) (entries : Table 8 (Option (Nat × Nat))) (note : Option RefusalNote)
  | describe
  | probe (resync : Bool)
deriving DecidableEq, Repr

/-- A channel record (R21): its state, and in the two waiting states the in-flight transaction and the
limit the answer timer started at, in ms (log 9). -/
inductive Channel where
  | idle
  | awaitingAnswer (position : PositionNo) (sent : RiserRequest) (timer : Nat)
  | awaitingReport (position : PositionNo) (timer : Nat)
deriving DecidableEq, Repr

/-- The causes of a STALE report answer (Table 12.9). -/
inductive StaleCause where
  | notEnrolled | unknownKind | malformed | notActive | sessionEnded
deriving DecidableEq, Repr

/-- A report answer (R34). -/
inductive ReportAnswer where
  | taken
  | stale (cause : StaleCause)
deriving DecidableEq, Repr

/-! ### Tenants and accounts (chapter 3) -/

/-- The four tariff weights (R39). -/
structure Tariff where
  mono : Nat
  colour : Nat
  largeMono : Nat
  largeColour : Nat
deriving DecidableEq, Repr

/-- A DEFINED tenant record (Table 3.1). -/
structure Tenant where
  poolAllowance : Option Nat
  poolCharged : Nat
  poolReserved : Nat
  poolExhausted : Bool
  defaultAllowance : Option Nat
  tariff : Tariff
  holdHours : Nat
  jobLimit : Nat
  accountLimit : Nat
  liveJobs : Nat
  accountCount : Nat
deriving DecidableEq, Repr

/-- An account record in use (Table 3.3). -/
structure Account where
  key : AccountKey
  credential : Option Word32
  allowance : Option Nat
  charged : Nat
  reserved : Nat
  barred : Bool
  exhausted : Bool
  heldJobs : Nat
  session : Option PrinterNo
deriving DecidableEq, Repr

/-! ### Job pool (chapter 4) -/

/-- The outcomes of a COMPLETE job (R62). -/
inductive JobOutcome where
  | done | cancelled | expired
deriving DecidableEq, Repr

/-- The job states, each with the fields that are present in it alone (Table 4.1). -/
inductive JobState where
  | held
  | granted (printer : PrinterNo) (colourAsMono : Bool) (startTimer : Option Nat)
  | printing (printer : PrinterNo) (colourAsMono : Bool)
  | suspended (printer : PrinterNo) (colourAsMono : Bool) (suspendTimer : Nat)
  | complete (outcome : JobOutcome) (finishedAt : Clock)
deriving DecidableEq, Repr

/-- A job record in use (Table 4.1); its handle is its number with its generation. -/
structure Job where
  owner : AccountKey
  tag : Nat
  spool : Word32
  declaredMono : Nat
  declaredColour : Nat
  large : Bool
  preferred : Option PrinterNo
  state : JobState
  holdMinutes : Nat
  doneMono : Nat
  doneColour : Nat
  reserved : Nat
  charged : Nat
deriving DecidableEq, Repr

/-- A record of the pool: its generation, and the job when it is in use (R59). -/
structure JobRecord where
  generation : Fin 64
  job : Option Job
deriving DecidableEq, Repr

/-! ### Release unit (chapter 5) -/

/-- A session that is SHOWING (`releasing` false) or RELEASING (Table 5.1). -/
structure Session where
  releasing : Bool
  account : AccountKey
  eligible : Table 8 (Option Handle)
  release : List Handle
  window : Option Nat
  loggedOut : Bool
  note : Option RefusalNote
deriving DecidableEq, Repr

/-! ### Reorder list (chapter 8) and callout list (chapter 9) -/

/-- Urgency of a reorder (Table 8.1). -/
inductive Urgency where
  | normal | urgent
deriving DecidableEq, Repr

/-- State of a reorder (Table 8.1). -/
inductive ReorderState where
  | raised | sent | confirmed | fulfilled | unplanned | cancelled
deriving DecidableEq, Repr

/-- A reorder record (Table 8.1). -/
structure Reorder where
  number : Nat
  printer : PrinterNo
  slot : Nat
  kind : SlotKind
  urgency : Urgency
  state : ReorderState
  raisedAt : Clock
  level : Nat
  orderRef : Option Word32
  expectedDay : Option Nat
deriving DecidableEq, Repr

/-- State of a callout (Table 9.4). -/
inductive CalloutState where
  | opened | dispatched | cleared
deriving DecidableEq, Repr

/-- A callout record (Table 9.4); its number fixes its printer and class. -/
structure Callout where
  code : Byte
  openedAt : Clock
  state : CalloutState
  reopenCount : Nat
  reorder : Option Nat
  job : Option Handle
deriving DecidableEq, Repr

/-! ### Tower links (chapter 10) -/

/-- The role of a port, with the tenant number of the role TENANT (R171). -/
inductive Role where
  | facilities
  | tenant (t : TenantNo)
  | supplies
  | unbound
deriving DecidableEq, Repr

/-- The refusal reasons (Table 10.2). -/
inductive Reason where
  | unknownRequest | notPermitted | overlap | malformed | noSuch | wrongState | poolFull | limit | duplicate
deriving DecidableEq, Repr

/-- The causes of ENROL FAILED (Table 12.2). -/
inductive EnrolCause where
  | badDescriptor | noAnswer | channelReset
deriving DecidableEq, Repr

/-- The status of an answer (R177). -/
inductive Status where
  | accepted
  | refused (reason : Reason)
  | enrolled
  | enrolFailed (cause : EnrolCause)
deriving DecidableEq, Repr

/-- An answer frame: the code and tag it mirrors, its status and its body (Table 12.1). -/
structure Answer where
  code : Byte
  tag : Byte
  status : Status
  body : List Byte
deriving DecidableEq, Repr

/-- An outstanding request (R171). -/
structure Outstanding where
  code : Byte
  tag : Byte
deriving DecidableEq, Repr

/-- A port's transmitter (R171, R179). -/
inductive Transmitter where
  | idle
  | answer (frame : Answer)
  | overlap (frame : Answer)
  | attention (masked : BitVec 12)
deriving DecidableEq, Repr

/-- The attention classes; their place is their bit in a set (Table 12.3). -/
inductive Attention where
  | jobFinished | jobExpired | jobReheld | accountExhausted | poolExhausted | poolRenewed
  | printerDisabled | calloutOpened | calloutCleared | orderRaised | orderUrgent | orderClosed
deriving DecidableEq, Repr

/-- A port's entry in the binding table (Table 10.1); `attention` is the attention slot. -/
structure Port where
  role : Role
  outstanding : Option Outstanding
  answer : Option Answer
  overlap : Option Answer
  attention : Bool
  raw : BitVec 12
  mask : BitVec 12
  transmitter : Transmitter
deriving DecidableEq, Repr

/-! ### The whole state -/

/-- The state of the controller, in the order of INVENTORY.md. -/
structure State where
  printers : Table 64 Printer
  channels : Table 8 Channel
  positions : Table 64 Position
  serviceLines : Table 64 Bool
  reportAnswers : Table 8 (Option (PositionNo × ReportAnswer))
  tenants : Table 16 (Option Tenant)
  accounts : List Account
  jobs : Table 1024 JobRecord
  freeList : List RecordNo
  submission : List RecordNo
  completions : Table 16 (List RecordNo)
  sessions : Table 64 (Option Session)
  reorders : List Reorder
  reorderCounter : Nat
  leadDays : Nat
  safetyDays : Nat
  callouts : Table 192 (Option Callout)
  lines : PerClass Bool
  ports : Table 8 Port
  clock : Clock
  minuteMarksDue : Nat
  dayClosesDue : Nat
  lastMinuteMark : Clock
  draws : Nat
  pending : List Instr
deriving DecidableEq, Repr

/-- A position with every mark clear and its silence timer stopped (R22). -/
def Position.clear : Position :=
  ⟨false, false, false, false, false, false, none, false, none⟩

/-- A port of a role with nothing outstanding, empty slots, empty sets and an idle transmitter (R171). -/
def Port.fresh (role : Role) : Port := ⟨role, none, none, none, false, 0, 0, .idle⟩

/-- The controller right after power-on, with nothing waiting (R193 and the rules it gathers; the values
of the model's own fields are DESIGN CHOICE, log 24). -/
def State.reset : State where
  printers := Table.fill 64 .absent
  channels := Table.fill 8 .idle
  positions := Table.fill 64 Position.clear
  serviceLines := Table.fill 64 false
  reportAnswers := Table.fill 8 none
  tenants := Table.fill 16 none
  accounts := []
  jobs := Table.fill 1024 ⟨0, none⟩
  freeList := List.finRange 1024
  submission := []
  completions := Table.fill 16 []
  sessions := Table.fill 64 none
  reorders := []
  reorderCounter := 1
  leadDays := Config.leadDays
  safetyDays := Config.safetyDays
  callouts := Table.fill 192 none
  lines := ⟨false, false, false⟩
  ports := Table.tab fun p => Port.fresh (if p = 0 then .facilities else .unbound)
  clock := ⟨0, 0⟩
  minuteMarksDue := 0
  dayClosesDue := 0
  lastMinuteMark := ⟨0, 0⟩
  draws := 0
  pending := []

end Sys2Proof.Machine
end

