-- ==== Sys2Proof/Machine/Operands.lean ====
section
/-! DEFINITION. The operand forms: how the fields of a request body, of a report body and of the
printer descriptor are read (R197, R198, Tables 12.8 and 12.10), and how the fields of answers and of
the controller's riser frames are written. Multi-byte fields are most significant byte first (R196). -/

namespace Sys2Proof.Machine

/-! ### Reading fields -/

/-- The byte at place `i` as a number. -/
def u8 (b : List Byte) (i : Nat) : Nat := (b.getD i 0).toNat
/-- A two-byte field. -/
def u16 (b : List Byte) (i : Nat) : Nat := u8 b i * 256 + u8 b (i + 1)
/-- A three-byte field. -/
def u24 (b : List Byte) (i : Nat) : Nat := u16 b i * 256 + u8 b (i + 2)
/-- A four-byte opaque field. -/
def u32 (b : List Byte) (i : Nat) : Word32 := BitVec.ofNat 32 (u16 b i * 65536 + u16 b (i + 2))

/-- A number below `n` as the name of a record, none outside the range. -/
def numberBelow (n x : Nat) : Option (Fin n) := if h : x < n then some ⟨x, h⟩ else none

/-- A tenant number 1-16. -/
def tenantOf (x : Nat) : Option TenantNo := if x = 0 then none else numberBelow 16 (x - 1)

/-- A field with a selector byte (R197): its value, or one of the four words. -/
inductive Choice (α : Type) where
  | value (a : α)
  | absent
  | default
  | noChange
  | all
deriving DecidableEq, Repr

/-- The selector at place `i` with the value that follows it; `words` are the words the field allows.
None is a malformed selector (R197). -/
def choiceAt {α : Type} (b : List Byte) (i : Nat) (words : List Nat) (value : α) : Option (Choice α) :=
  let sel := u8 b i
  if sel = 0 then some (.value value)
  else if sel ∈ words then
    match sel with
    | 1 => some .absent
    | 2 => some .default
    | 3 => some .noChange
    | 4 => some .all
    | _ => none
  else none

/-- A flag byte: 00h or 01h (R197). -/
def flagAt (b : List Byte) (i : Nat) : Option Bool :=
  match u8 b i with
  | 0 => some false
  | 1 => some true
  | _ => none

/-- The tenants of a set, in tenant order. -/
def tenantsOf (set : BitVec 16) : List TenantNo := (List.finRange 16).filter fun t => set.getLsbD t.val

/-- A sharing field (R197): a code, then a set of tenants; DEDICATED names exactly one. -/
def sharingAt (b : List Byte) (i : Nat) : Option Sharing :=
  let set := BitVec.ofNat 16 (u16 b (i + 1))
  match u8 b i with
  | 0 => match tenantsOf set with
    | [t] => some (.dedicated t)
    | _ => none
  | 1 => some (.shared set)
  | _ => none

/-- The handle a 16-bit value names (R196): bits 0-9 the record, bits 10-15 the generation. -/
def Handle.ofNat (x : Nat) : Handle :=
  ⟨⟨x % 1024, Nat.mod_lt _ (by decide)⟩, ⟨x / 1024 % 64, Nat.mod_lt _ (by decide)⟩⟩

/-- A handle field. -/
def handleAt (b : List Byte) (i : Nat) : Handle := Handle.ofNat (u16 b i)

/-- A set of attention classes, none when it names a code that is no class (R183). -/
def attentionSetAt (b : List Byte) (i : Nat) : Option (BitVec 12) :=
  if u16 b i < 4096 then some (BitVec.ofNat 12 (u16 b i)) else none

/-- The class a class byte of a CONDITION report names (Table 12.8). -/
def condClassOf (x : Nat) : Option CondClass :=
  match x with
  | 1 => some .user
  | 2 => some .supply
  | 3 => some .service
  | _ => none

/-! ### Writing fields -/

/-- A one-byte field. -/
def be1 (n : Nat) : List Byte := [byteOf n]
/-- A two-byte field. -/
def be2 (n : Nat) : List Byte := [byteOf (n / 256), byteOf n]
/-- A three-byte field. -/
def be3 (n : Nat) : List Byte := [byteOf (n / 65536), byteOf (n / 256), byteOf n]
/-- A four-byte field. -/
def be4 (w : Word32) : List Byte :=
  [byteOf (w.toNat / 16777216), byteOf (w.toNat / 65536), byteOf (w.toNat / 256), byteOf w.toNat]
/-- A flag. -/
def flagByte (f : Bool) : List Byte := [if f then 1 else 0]

/-- A field of `width` bytes that may be absent, behind its selector (R197, log 17). -/
def optField {α : Type} (width : Nat) (write : α → List Byte) : Option α → List Byte
  | some a => 0 :: write a
  | none => 1 :: List.replicate width 0

/-- A run of repeated items, behind its count (R197). -/
def runField {α : Type} (write : α → List Byte) (items : List α) : List Byte :=
  be1 items.length ++ (items.map write).flatten

/-- The number of a handle (R196). -/
def Handle.toNat (h : Handle) : Nat := h.generation.val * 1024 + h.record.val

/-- A handle field. -/
def handleBytes (h : Handle) : List Byte := be2 h.toNat

/-- A tenant number 1-16. -/
def tenantByte (t : TenantNo) : List Byte := be1 (t.val + 1)

/-- A sharing field. -/
def sharingBytes : Sharing → List Byte
  | .dedicated t => be1 0 ++ be2 (2 ^ t.val)
  | .shared set => be1 1 ++ be2 set.toNat

/-- A set of attention classes. -/
def attentionSetBytes (set : BitVec 12) : List Byte := be2 set.toNat

/-- Day number and second of day. -/
def clockBytes (c : Clock) : List Byte := be2 c.day ++ be3 c.second

/-- Capability flags as byte 1 of Table 12.10. -/
def capabilityByte (d : Descriptor) : List Byte :=
  be1 (d.colour.toNat + 2 * d.large.toNat + 4 * d.duplex.toNat + 8 * d.resumable.toNat
    + 16 * d.swapKeepsJob.toNat)

/-- The class codes of Table 12.8. -/
def condClassCode : CondClass → Nat
  | .user => 1
  | .supply => 2
  | .service => 3

/-- The slot kind codes of Table 12.10. -/
def SlotKind.code : SlotKind → Nat
  | .blackToner => 0
  | .colourToner => 1
  | .imagingUnit => 2

/-- The service state's place in Table 1.1. -/
def Printer.serviceCode : Printer → Nat
  | .absent => 0
  | .enrolling _ _ => 1
  | .enrolled e => match e.service with
    | .inService => 2
    | .draining => 3
    | .disabled => 4

/-- The session states of Table 12.8. -/
def SessionState.code : SessionState → Nat
  | .none => 0
  | .showing => 1
  | .releasing => 2

/-- The job state's place in Table 4.1. -/
def JobState.code : JobState → Nat
  | .held => 0
  | .granted _ _ _ => 1
  | .printing _ _ => 2
  | .suspended _ _ _ => 3
  | .complete _ _ => 4

/-- The outcome codes of Table 12.6. -/
def JobOutcome.code : JobOutcome → Nat
  | .done => 1
  | .cancelled => 2
  | .expired => 3

/-- The urgency codes of the reorder record. -/
def Urgency.code : Urgency → Nat
  | .normal => 0
  | .urgent => 1

/-- The state codes of the reorder record. -/
def ReorderState.code : ReorderState → Nat
  | .raised => 0
  | .sent => 1
  | .confirmed => 2
  | .fulfilled => 3
  | .unplanned => 4
  | .cancelled => 5

/-- The callout state's place in Table 9.4. -/
def CalloutState.code : CalloutState → Nat
  | .opened => 0
  | .dispatched => 1
  | .cleared => 2

/-- The role's place in Table 10.1. -/
def Role.code : Role → Nat
  | .facilities => 0
  | .tenant _ => 1
  | .supplies => 2
  | .unbound => 3

/-- The role of a port, and its tenant number when the role is TENANT. READ ATTENTION carries the number in that case
alone (R182, R197); that QUERY PORT's answer leaves it out with another role, without a selector, is log 34 (R186). -/
def roleBytes : Role → List Byte
  | .tenant t => be1 1 ++ tenantByte t
  | r => be1 r.code

/-- The reason and cause codes of Table 12.2. -/
def Reason.code : Reason → Nat
  | .unknownRequest => 1
  | .notPermitted => 2
  | .overlap => 3
  | .malformed => 4
  | .noSuch => 5
  | .wrongState => 6
  | .poolFull => 7
  | .limit => 8
  | .duplicate => 9

/-- The ENROL FAILED causes of Table 12.2. -/
def EnrolCause.code : EnrolCause → Nat
  | .badDescriptor => 0x11
  | .noAnswer => 0x12
  | .channelReset => 0x13

/-- Outcome and reason bytes of an answer (Table 12.2). -/
def Status.bytes : Status → Byte × Byte
  | .accepted => (0, 0)
  | .refused r => (1, byteOf r.code)
  | .enrolled => (2, 0)
  | .enrolFailed c => (3, byteOf c.code)

/-- The frame of an answer (Table 12.1). -/
def Answer.frame (a : Answer) : TowerFrame :=
  ⟨kindAnswer, a.code, a.tag, a.status.bytes.1, a.status.bytes.2, a.body⟩

/-- The frame of an attention frame: code, tag and status sent as zero (R196). -/
def attentionFrame (masked : BitVec 12) : TowerFrame :=
  ⟨kindAttention, 0, 0, 0, 0, attentionSetBytes masked⟩

/-- The frame a transmitter is sending, if any. -/
def Transmitter.frame : Transmitter → Option TowerFrame
  | .idle => none
  | .answer a | .overlap a => some a.frame
  | .attention m => some (attentionFrame m)

/-- The end reason codes of Table 12.9; 05h and 0Eh are never sent. -/
def EndReason.code : EndReason → Nat
  | .sessionDone => 0x01
  | .loggedOut => 0x02
  | .timedOut => 0x03
  | .moved => 0x04
  | .takenOver => 0x05
  | .printerStopped => 0x06
  | .grantRefused => 0x07
  | .notStarted => 0x08
  | .outOfService => 0x09
  | .noAccess => 0x0A
  | .accountBarred => 0x0B
  | .accountRemoved => 0x0C
  | .tenantRemoved => 0x0D
  | .channelReset => 0x0E
  | .unknownBadge => 0x0F
  | .printerBusy => 0x10
  | .accountInSession => 0x11

/-- The STALE causes of Table 12.9. -/
def StaleCause.code : StaleCause → Nat
  | .notEnrolled => 0x21
  | .unknownKind => 0x22
  | .malformed => 0x23
  | .notActive => 0x24
  | .sessionEnded => 0x25

/-- The body of a report answer (Table 12.8). -/
def ReportAnswer.body : ReportAnswer → List Byte
  | .taken => [1, 0]
  | .stale c => [2, byteOf c.code]

/-- The frame of a report answer: class 04h, kind 20h (Tables 12.7, 12.8). -/
def ReportAnswer.frame (k : PositionNo) (a : ReportAnswer) : RiserFrame := ⟨k, 0x04, 0x20, a.body⟩

/-- The mark kind of a request frame. -/
def RiserRequest.kind : RiserRequest → MarkKind
  | .revoke _ => .revoke
  | .grant _ _ _ _ _ => .grant
  | .endSession _ _ => .endSession
  | .showList _ _ _ => .showList
  | .describe => .describe
  | .probe _ => .probe

/-- The kind codes of Table 12.8. -/
def MarkKind.code : MarkKind → Nat
  | .revoke => 1
  | .grant => 2
  | .endSession => 3
  | .showList => 4
  | .describe => 5
  | .probe => 6

/-- The refusal note of a SHOW LIST body: reason, tag, count, all zero when absent (Table 12.8). -/
def noteBytes : Option RefusalNote → List Byte
  | none => [0, 0, 0, 0]
  | some n => be1 (match n.reason with | .quota => 1 | .pool => 2) ++ be2 n.tag ++ be1 n.count

/-- The body of a request frame (Table 12.8). -/
def RiserRequest.body : RiserRequest → List Byte
  | .revoke none => []
  | .revoke (some h) => handleBytes h
  | .grant h spool t resume cam => handleBytes h ++ be4 spool ++ tenantByte t ++ be3 resume ++ flagByte cam
  | .endSession r st => be1 (match r with | some r => r.code | none => 0) ++ be1 st.code
  | .showList st entries note =>
    be1 st.code
      ++ be1 ((List.finRange 8).map fun k => if (entries.rd k).isSome then 2 ^ k.val else 0).sum
      ++ (entries.cells.map fun e => match e with
          | some (tag, sides) => be2 tag ++ be3 sides
          | none => [0, 0, 0, 0, 0]).flatten
      ++ noteBytes note
  | .describe => []
  | .probe r => flagByte r

/-- The request frame on the data line: class 01h (Table 12.7). -/
def RiserRequest.frame (k : PositionNo) (q : RiserRequest) : RiserFrame :=
  ⟨k, 0x01, byteOf q.kind.code, q.body⟩

/-- The CALL frame (Table 12.8). -/
def callFrame (k : PositionNo) : RiserFrame := ⟨k, 0x01, 0x07, []⟩

/-! ### The printer descriptor (R8 to R12, Table 12.10) -/

/-- The unit of a duration code, in s (Table 1.4). -/
def durationUnit (u : Nat) : Nat :=
  match u with
  | 0 => 1
  | 1 => 8
  | 2 => 64
  | _ => 512

/-- The limit of a duration code, bits 0-9 of a 16-bit value (R10). -/
def durationLimit (w : Nat) : Nat :=
  (w / 4 % 32 + 1) * durationUnit (w % 4) * (w / 128 % 8 + 1)

/-- The answer unit, in ms (Table 1.4). -/
def answerUnit (u : Nat) : Nat :=
  match u with
  | 0 => 10
  | 1 => 100
  | 2 => 1000
  | _ => 4000

/-- The kind code of slot entry `i`. -/
def entryKind (d : List Byte) (i : Nat) : Nat := u8 d (4 + 3 * i) % 4
/-- The yield of slot entry `i`. -/
def entryYield (d : List Byte) (i : Nat) : Nat := u16 d (5 + 3 * i)

/-- Whether a descriptor is valid (R8). -/
def descriptorValid (d : List Byte) : Bool :=
  decide (d.length = 32) && decide (u8 d 0 = 1) && decide (1 ≤ u8 d 2) && decide (u8 d 2 ≤ 5)
    && ((List.range (u8 d 2)).all fun i => decide (entryKind d i ≠ 3) && decide (entryYield d i ≠ 0))
    && decide (u8 d 30 = 0) && decide (u8 d 31 = 0)

/-- The slot kind of a code; code 3 is invalid and never decoded (R8). -/
def slotKindOf (x : Nat) : SlotKind :=
  match x with
  | 0 => .blackToner
  | 1 => .colourToner
  | _ => .imagingUnit

/-- The capacity of a clamped yield, in doses (R9, R12). -/
def capacityOf (yield : Nat) : Nat := min yield 1000 * 5000

/-- The slot record made for slot entry `i` (R12). -/
def slotOfEntry (d : List Byte) (i : Nat) : Slot :=
  let cap := capacityOf (entryYield d i)
  ⟨slotKindOf (entryKind d i), u8 d (4 + 3 * i) / 16, cap, cap, 0, 0, false, 999, 100, 0, true⟩

/-- The slot records of a valid descriptor (R12). -/
def slotsOf (d : List Byte) : List Slot := (List.range (u8 d 2)).map (slotOfEntry d)

/-- The clamped and decoded descriptor (R9 to R11). -/
def descriptorOf (d : List Byte) : Descriptor where
  colour := (u8 d 1).testBit 0
  large := (u8 d 1).testBit 1
  duplex := (u8 d 1).testBit 2
  resumable := (u8 d 1).testBit 3
  swapKeepsJob := (u8 d 1).testBit 4
  floorPercent := clamp 1 50 (u8 d 3)
  answerTime := (u8 d 25 / 4 % 16 + 1) * answerUnit (u8 d 25 % 4)
  window := (u16 d 26 / 1024 + 1) * 10
  startLimit := durationLimit (u16 d 26)
  suspendLimit := durationLimit (u16 d 28)
  grace := ⟨durationLimit (u16 d 19), durationLimit (u16 d 21), durationLimit (u16 d 23)⟩

end Sys2Proof.Machine
end

