-- ==== Sys2Proof/Machine/Flags.lean ====
section
/-! DEFINITION. The flags and derived values the spec computes from records: access and fit (chapter 1),
UNLIMITED, EXHAUSTED and overrun (chapter 3), the estimate, the weights and the two tests of a grant
(chapter 6), level, days to empty and consumption (chapter 7), masked sets (chapter 10). -/

namespace Sys2Proof.Machine

/-- The value of one class. -/
def PerClass.get {α : Type} (x : PerClass α) : CondClass → α
  | .user => x.user
  | .supply => x.supply
  | .service => x.service

/-- The values with one class's replaced. -/
def PerClass.set {α : Type} (x : PerClass α) (c : CondClass) (a : α) : PerClass α :=
  match c with
  | .user => ⟨a, x.supply, x.service⟩
  | .supply => ⟨x.user, a, x.service⟩
  | .service => ⟨x.user, x.supply, a⟩

/-! ### Printers (chapter 1, chapter 9) -/

/-- Whether a sharing gives access to a tenant (R5). -/
def Sharing.gives : Sharing → TenantNo → Bool
  | .dedicated u, t => decide (u = t)
  | .shared set, t => set.getLsbD t.val

/-- The tenants a sharing names (R13). -/
def Sharing.named : Sharing → List TenantNo
  | .dedicated t => [t]
  | .shared set => tenantsOf set

/-- The sharing after a tenant's removal (R7). -/
def Sharing.without (sh : Sharing) (t : TenantNo) : Sharing :=
  match sh with
  | .dedicated u => if u = t then .shared 0 else .dedicated u
  | .shared set => .shared (set &&& ~~~(1#16 <<< t.val))

/-- What an enrolled printer's record holds, none when it is not enrolled (section 1.2). -/
def Printer.enrolled? : Printer → Option Enrolled
  | .enrolled e => some e
  | _ => none

/-- Whether a tenant has access to a printer: it is enrolled and its sharing gives access (R5). -/
def Printer.access (p : Printer) (t : TenantNo) : Bool :=
  match p with
  | .enrolled e => e.sharing.gives t
  | _ => false

/-- Whether the condition set is empty (R150). -/
def Enrolled.conditionsClear (e : Enrolled) : Bool :=
  decide (e.codes.user = 0) && decide (e.codes.supply = 0) && decide (e.codes.service = 0)

/-- Whether a job fits a printer (R6). -/
def Descriptor.fits (d : Descriptor) (large : Bool) : Bool := !large || d.large

/-- The slot that a SUPPLY slot-empty code names (Table 9.1, R127). -/
def slotEmptyOf (cls : CondClass) (code : Byte) : Option Nat :=
  if cls = .supply ∧ 1 ≤ code.toNat ∧ code.toNat ≤ 5 then some (code.toNat - 1) else none

/-! ### Jobs -/

/-- The printer a job is active at, with its COLOUR-AS-MONO flag (R62). -/
def JobState.active : JobState → Option (PrinterNo × Bool)
  | .granted p cam _ | .printing p cam | .suspended p cam _ => some (p, cam)
  | .held | .complete _ _ => none

/-- The resume-from side (R62, R110). -/
def Job.resumeFrom (j : Job) : Nat := j.doneMono + j.doneColour

/-- Remaining mono sides (R102). -/
def Job.remainingMono (j : Job) : Nat := j.declaredMono - j.doneMono
/-- Remaining colour sides (R102). -/
def Job.remainingColour (j : Job) : Nat := j.declaredColour - j.doneColour

/-- Whether a job has reached its hold time: HELD with no hold minutes left (R72). -/
def Job.expiryDue (j : Job) : Bool := decide (j.state = .held) && decide (j.holdMinutes = 0)

/-! ### Accounts, pools and charging -/

/-- UNLIMITED: set exactly while the allowance is absent (R47). -/
def Account.unlimited (a : Account) : Bool := a.allowance.isNone

/-- Whether a charged amount reaches or passes an allowance that is present (R41, R111). -/
def reaches (allowance : Option Nat) (charged : Nat) : Bool :=
  match allowance with
  | some a => decide (a ≤ charged)
  | none => false

/-- The overrun of an account or pool, computed when it is read (R40, R47, R111). -/
def overrun (allowance : Option Nat) (charged : Nat) : Nat :=
  match allowance with
  | some a => charged - a
  | none => 0

/-- The weight of a side of a format, in mono or colour (Table 6.1, R109). -/
def Tariff.weight (w : Tariff) (large colour : Bool) : Nat :=
  match large, colour with
  | false, false => w.mono
  | false, true => w.colour
  | true, false => w.largeMono
  | true, true => w.largeColour

/-- The estimate of a job at a printer with or without COLOUR (R102, Table 6.1). -/
def estimate (w : Tariff) (printerColour : Bool) (j : Job) : Nat :=
  min (j.remainingMono * w.weight j.large false + j.remainingColour * w.weight j.large printerColour)
    unitMax

/-- COLOUR-AS-MONO of a job granted at a printer (R6, R103). -/
def colourAsMono (d : Descriptor) (j : Job) : Bool := !d.colour && decide (j.doneColour < j.declaredColour)

/-- Whether a sum fits an allowance that may be absent; sums are compared whole (R104, R105). -/
def withinAllowance (allowance : Option Nat) (sum : Nat) : Bool :=
  match allowance with
  | some a => decide (sum ≤ a)
  | none => true

/-- The account test of a grant (R104). -/
def Account.passes (a : Account) (e : Nat) : Bool :=
  !a.exhausted && withinAllowance a.allowance (a.charged + a.reserved + e) && decide (a.reserved + e ≤ unitMax)

/-- The pool test of a grant (R105). -/
def Tenant.passes (t : Tenant) (e : Nat) : Bool :=
  !t.poolExhausted && withinAllowance t.poolAllowance (t.poolCharged + t.poolReserved + e)
    && decide (t.poolReserved + e ≤ unitMax)

/-- The check at grant: the reason of a refusal, or none when it passes (R104, R105). -/
def grantRefusal (a : Account) (t : Tenant) (e : Nat) : Option NoteReason :=
  if !a.passes e then some .quota else if !t.passes e then some .pool else none

/-- The charge of a SIDES report (R109); `cam` is the job's COLOUR-AS-MONO flag. -/
def sideCharge (w : Tariff) (j : Job) (cam colour : Bool) (count : Nat) : Nat :=
  count * w.weight j.large (colour && !cam)

/-! ### Slots (R118 to R122) -/

/-- Level percent (R119). -/
def levelOf (capacity remaining : Nat) : Nat := remaining * 100 / capacity

/-- Days to empty (R119). -/
def daysOf (rate remaining : Nat) : Nat := if rate = 0 then 999 else min (remaining / rate) 999

/-- A slot with its derived values recomputed (R119). -/
def Slot.derive (x : Slot) : Slot :=
  { x with level := levelOf x.capacity x.remaining, daysToEmpty := daysOf x.rate x.remaining }

/-- The consumption of a slot for `n` sides with coverage sum `cover` (R121, R122). -/
def Slot.consumption (x : Slot) (large : Bool) (n cover : Nat) : Nat :=
  let base := match x.kind with
    | .imagingUnit => n * x.overhead
    | _ => min cover (n * 1000) + n * x.overhead
  if large then 2 * base else base

/-- A slot after a consumption (R122 steps 1 to 3). -/
def Slot.consume (x : Slot) (c : Nat) : Slot :=
  { x with remaining := x.remaining - c, today := satAdd unitMax x.today c }.derive

/-- A slot after day close: rate, SEEDED, today's doses and days to empty (R124, Table 7.2). -/
def Slot.closeDay (x : Slot) : Slot :=
  let rate := if x.seeded then (7 * x.rate + x.today) / 8 else x.today
  { x with
    rate := rate, seeded := x.seeded || decide (0 < x.today), today := 0,
    daysToEmpty := daysOf rate x.remaining }

/-- A slot the printer has reported empty (R127). -/
def Slot.emptied (x : Slot) : Slot :=
  { x with remaining := 0, level := 0, daysToEmpty := daysOf x.rate 0 }

/-- A slot after a replacement (R131). -/
def Slot.replaced (x : Slot) (identity : Word32) : Slot :=
  { x with
    remaining := x.capacity, level := 100, daysToEmpty := daysOf x.rate x.capacity,
    present := true, identity := identity }

/-- Whether a slot is urgent (R138). -/
def Slot.urgent (x : Slot) (floorPercent : Nat) : Bool :=
  decide (x.level ≤ floorPercent) || decide (x.remaining = 0)

/-- Whether the day-close test finds a slot within the margin (R137). -/
def Slot.withinMargin (x : Slot) (margin : Nat) : Bool :=
  decide (x.daysToEmpty ≠ 999) && decide (x.daysToEmpty ≤ margin)

/-! ### Reorders -/

/-- Open reorders: RAISED, SENT, CONFIRMED (Table 8.1). -/
def ReorderState.isOpen : ReorderState → Bool
  | .raised | .sent | .confirmed => true
  | .fulfilled | .unplanned | .cancelled => false

/-- Whether a reorder concerns a slot (R136). -/
def Reorder.concerns (r : Reorder) (p : PrinterNo) (slot : Nat) : Bool :=
  decide (r.printer = p) && decide (r.slot = slot)

/-! ### Ports -/

/-- The masked set (R181). -/
def Port.masked (p : Port) : BitVec 12 := p.raw &&& p.mask

/-- The bit of an attention class (Table 12.3). -/
def Attention.bit : Attention → Nat
  | .jobFinished => 0
  | .jobExpired => 1
  | .jobReheld => 2
  | .accountExhausted => 3
  | .poolExhausted => 4
  | .poolRenewed => 5
  | .printerDisabled => 6
  | .calloutOpened => 7
  | .calloutCleared => 8
  | .orderRaised => 9
  | .orderUrgent => 10
  | .orderClosed => 11

/-- The set of one attention class. -/
def Attention.set (a : Attention) : BitVec 12 := 1#12 <<< a.bit

/-- Whether a role is one that a request is permitted to (Table 10.3). -/
def permits (r : Request) (role : Role) : Bool :=
  match role with
  | .unbound => decide (r = .readAttention)
  | .facilities =>
    match r with
    | .createAccount | .amendAccount | .removeAccount | .queryAccount | .renewPeriod => false
    | .submitJob | .withdraw | .takeCompletions => false
    | .takeOrders | .confirmOrder | .cancelOrder | .setLeadTime => false
    | _ => true
  | .tenant _ =>
    match r with
    | .createAccount | .amendAccount | .removeAccount | .queryAccount | .renewPeriod => true
    | .submitJob | .withdraw | .takeCompletions => true
    | .queryPrinter | .queryTenant | .queryJob => true
    | .readAttention | .clearAttention | .setMask => true
    | _ => false
  | .supplies =>
    match r with
    | .takeOrders | .confirmOrder | .cancelOrder | .setLeadTime => true
    | .querySlot | .queryOrder => true
    | .readAttention | .clearAttention | .setMask => true
    | _ => false

end Sys2Proof.Machine
end

