-- ==== Sys2Proof/Machine/Ops.lean ====
section
/-! DEFINITION. The shared operations over the records: reading and writing them, raising attention
(R180, R181), setting marks (R23), ending a session (R80), the moves of a job and the freeing of its
record (R60, R64 to R67), and the slots of a port (R175, R176). Every operation is total; what an
operation needs and does not find leaves the state as it is. -/

namespace Sys2Proof.Machine

/-! ### Names -/

/-- The printer at a riser channel's adapter position (R1). -/
def printerAt (c : ChannelNo) (k : PositionNo) : PrinterNo :=
  ⟨c.val * 8 + k.val, by have := c.isLt; have := k.isLt; omega⟩

/-- The riser channel of a printer (R1). -/
def channelOf (p : PrinterNo) : ChannelNo := ⟨p.val / 8, by have := p.isLt; omega⟩

/-- The callout number of a printer and class (R162). -/
def calloutNo (p : PrinterNo) (cls : CondClass) : CalloutNo :=
  ⟨p.val * 3 + (match cls with | .user => 0 | .supply => 1 | .service => 2),
    by have := p.isLt; cases cls <;> simp <;> omega⟩

/-- The printer of a callout number. -/
def calloutPrinter (n : CalloutNo) : PrinterNo := ⟨n.val / 3, by have := n.isLt; omega⟩

/-- The class of a callout number. -/
def calloutClass (n : CalloutNo) : CondClass :=
  match n.val % 3 with
  | 0 => .user
  | 1 => .supply
  | _ => .service

/-! ### Reading and writing records -/

def State.setPrinter (s : State) (p : PrinterNo) (x : Printer) : State :=
  { s with printers := s.printers.wr p x }

/-- What the record of an enrolled printer holds. -/
def State.enrolled (s : State) (p : PrinterNo) : Option Enrolled := (s.printers.rd p).enrolled?

def State.setEnrolled (s : State) (p : PrinterNo) (e : Enrolled) : State := s.setPrinter p (.enrolled e)

/-- The printer's active job (R1). -/
def State.activeJob (s : State) (p : PrinterNo) : Option Handle := (s.enrolled p).bind (·.activeJob)

def State.setChannel (s : State) (c : ChannelNo) (x : Channel) : State :=
  { s with channels := s.channels.wr c x }

def State.setPosition (s : State) (p : PrinterNo) (x : Position) : State :=
  { s with positions := s.positions.wr p x }

def State.setLine (s : State) (p : PrinterNo) (level : Bool) : State :=
  { s with serviceLines := s.serviceLines.wr p level }

def State.setTenant (s : State) (t : TenantNo) (x : Option Tenant) : State :=
  { s with tenants := s.tenants.wr t x }

/-- A DEFINED tenant's record changed; an ABSENT one holds nothing to change. -/
def State.modTenant (s : State) (t : TenantNo) (f : Tenant → Tenant) : State :=
  match s.tenants.rd t with
  | some x => s.setTenant t (some (f x))
  | none => s

/-- The account of a tenant and number (R47). -/
def State.account (s : State) (key : AccountKey) : Option Account :=
  s.accounts.find? fun a => decide (a.key = key)

def State.modAccount (s : State) (key : AccountKey) (f : Account → Account) : State :=
  { s with accounts := s.accounts.map fun a => if a.key = key then f a else a }

/-- The account that the credential map holds for a digest (R49). A digest of 0 finds none. -/
def State.accountOfDigest (s : State) (digest : Word32) : Option Account :=
  if digest = 0 then none else s.accounts.find? fun a => decide (a.credential = some digest)

/-- The job of a record in use. -/
def State.jobAt (s : State) (n : RecordNo) : Option Job := (s.jobs.rd n).job

/-- The handle of a record as it stands (R61). -/
def State.handleOf (s : State) (n : RecordNo) : Handle := ⟨n, (s.jobs.rd n).generation⟩

/-- The job a handle names: none when the handle is not current (R61). -/
def State.job (s : State) (h : Handle) : Option Job :=
  if (s.jobs.rd h.record).generation = h.generation then (s.jobs.rd h.record).job else none

/-- The job of a record written; its generation is kept. -/
def State.setJob (s : State) (n : RecordNo) (j : Job) : State :=
  { s with jobs := s.jobs.wr n ⟨(s.jobs.rd n).generation, some j⟩ }

def State.setSession (s : State) (p : PrinterNo) (x : Option Session) : State :=
  { s with sessions := s.sessions.wr p x }

/-- A standing session's record changed. -/
def State.modSession (s : State) (p : PrinterNo) (f : Session → Session) : State :=
  match s.sessions.rd p with
  | some x => s.setSession p (some (f x))
  | none => s

/-- The session state of a printer (R79). -/
def sessionState : Option Session → SessionState
  | none => .none
  | some x => if x.releasing then .releasing else .showing

/-- Whether a handle stands in a release list (R71, R85). -/
def State.inRelease (s : State) (h : Handle) : Bool :=
  s.sessions.cells.any fun x => match x with
    | some x => x.release.contains h
    | none => false

def State.setPort (s : State) (n : PortNo) (x : Port) : State := { s with ports := s.ports.wr n x }

/-! ### Attention (R180, R181) -/

/-- A raw set or mask changed: the attention slot is set when the masked set goes from empty to
nonempty (R181). -/
def Port.withSets (p : Port) (raw mask : BitVec 12) : Port :=
  { p with
    raw := raw, mask := mask,
    attention := p.attention || (decide (p.masked = 0) && decide (raw &&& mask ≠ 0)) }

/-- An event raised into the raw set of every port whose role is entitled to it (R180). -/
def State.raise (s : State) (a : Attention) (entitled : Role → Bool) : State :=
  { s with ports := s.ports.map fun p => if entitled p.role then p.withSets (p.raw ||| a.set) p.mask else p }

def toTenant (t : TenantNo) (r : Role) : Bool := decide (r = .tenant t)
def toFacilities (r : Role) : Bool := decide (r = .facilities)
def toSupplies (r : Role) : Bool := decide (r = .supplies)

/-! ### Marks (R23) -/

/-- A mark read. -/
def Position.marked (x : Position) : MarkKind → Bool
  | .revoke => x.revoke
  | .grant => x.grant
  | .endSession => x.endSession
  | .showList => x.showList
  | .describe => x.describe
  | .probe => x.probe

/-- A mark written. -/
def Position.withMark (x : Position) (kind : MarkKind) (v : Bool) : Position :=
  match kind with
  | .revoke => { x with revoke := v }
  | .grant => { x with grant := v }
  | .endSession => { x with endSession := v }
  | .showList => { x with showList := v }
  | .describe => { x with describe := v }
  | .probe => { x with probe := v }

/-- A mark set at a printer's position (R23). -/
def State.setMark (s : State) (p : PrinterNo) (kind : MarkKind) : State :=
  s.setPosition p ((s.positions.rd p).withMark kind true)

/-- The END SESSION mark set with a reason, which replaces an older one (R23). -/
def State.setEndSession (s : State) (p : PrinterNo) (reason : EndReason) : State :=
  s.setPosition p { s.positions.rd p with endSession := true, endReason := some reason }

/-! ### Sessions (R80) -/

/-- Whether a reason calls for an END SESSION mark (Table 5.3). -/
def EndReason.marks : EndReason → Bool
  | .takenOver | .channelReset => false
  | _ => true

/-- Reasons of an end that follows the active job's leaving: no further frame is sent to a session that
is logged out (R97, R98, R99; log 23). -/
def EndReason.withJob : EndReason → Bool
  | .sessionDone | .printerStopped | .grantRefused | .notStarted => true
  | _ => false

/-- The end of the session at a printer, for a reason (R80). -/
def State.endSession (s : State) (p : PrinterNo) (reason : EndReason) : State :=
  match s.sessions.rd p with
  | none => s
  | some x =>
    let s := (s.setSession p none).modAccount x.account fun a => { a with session := none }
    if reason.marks && !(x.loggedOut && reason.withJob) then s.setEndSession p reason else s

/-- A RELEASING session whose release list is empty returns to SHOWING (R91). -/
def State.returnToShowing (s : State) (p : PrinterNo) : State :=
  match s.enrolled p with
  | some e =>
    (s.modSession p fun x => { x with releasing := false, release := [], window := some e.descriptor.window }).setMark
      p .showList
  | none => s

/-! ### Handles leaving the lists (R73, R86) -/

/-- A session at a printer after a handle has left the lists, and whether a SHOW LIST mark follows: a
vacancy is shown in SHOWING (R86); a release list that becomes empty while the printer has no active job
is taken as R91 gives (R73). -/
def Session.forget (x : Session) (h : Handle) (active : Bool) (window : Nat) : Session × Bool :=
  let eligible := x.eligible.map fun e => if e = some h then none else e
  let release := x.release.filter (· ≠ h)
  if x.releasing && x.release.contains h && release.isEmpty && !active then
    ({ x with eligible := eligible, release := release, releasing := false, window := some window }, true)
  else
    ({ x with eligible := eligible, release := release }, !x.releasing && x.eligible.cells.contains (some h))

/-- `Session.forget` at one printer. -/
def State.forgotten (s : State) (h : Handle) (p : PrinterNo) : Option (Session × Bool) :=
  (s.sessions.rd p).map fun x =>
    x.forget h (s.activeJob p).isSome (((s.enrolled p).map (·.descriptor.window)).getD 0)

/-- A handle removed from every eligible list and release list (R60, R72, R86). -/
def State.forget (s : State) (h : Handle) : State :=
  { s with
    sessions := Table.tab fun p => (s.forgotten h p).map (·.1)
    positions := Table.tab fun p =>
      if (s.forgotten h p).any (·.2) then (s.positions.rd p).withMark .showList true else s.positions.rd p }

/-! ### Moves of a job (R64 to R67) -/

/-- The printer's active job cleared; a DRAINING printer becomes DISABLED and PRINTER DISABLED is raised (R4). -/
def State.leavePrinter (s : State) (p : PrinterNo) : State :=
  match s.enrolled p with
  | none => s
  | some e =>
    match e.service with
    | .draining =>
      (s.setEnrolled p { e with activeJob := none, service := .disabled }).raise .printerDisabled toFacilities
    | _ => s.setEnrolled p { e with activeJob := none }

/-- Units given back to an account and its tenant's pool together (R40, R101, R114). -/
def State.giveBack (s : State) (key : AccountKey) (d : Nat) : State :=
  (s.modAccount key fun a => { a with reserved := a.reserved - d }).modTenant key.tenant
    fun t => { t with poolReserved := t.poolReserved - d }

/-- The hold minutes of a fresh hold time: the tenant's hold hours × 60 (R66, R70). -/
def State.holdTime (s : State) (t : TenantNo) : Nat := ((s.tenants.rd t).map (·.holdHours)).getD 0 * 60

/-- The held job count of an account raised by one (R68). -/
def State.countHeld (s : State) (key : AccountKey) : State :=
  s.modAccount key fun a => { a with heldJobs := a.heldJobs + 1 }

/-- The held job count of an account lowered by one (R68). -/
def State.uncountHeld (s : State) (key : AccountKey) : State :=
  s.modAccount key fun a => { a with heldJobs := a.heldJobs - 1 }

/-- The job that a handle names and its flag COLOUR-AS-MONO, when it is active at a printer: the test of
the moves Re-hold and Finish (R64). -/
def State.activeAt (s : State) (h : Handle) (p : PrinterNo) : Option Job :=
  match s.job h with
  | some j => match j.state.active with
    | some (q, _) => if q = p then some j else none
    | none => none
  | none => none

/-- The Re-hold move: none when it is refused at the record (R64, R66). -/
def State.rehold (s : State) (h : Handle) (p : PrinterNo) : Option State :=
  match s.activeAt h p with
  | none => none
  | some j =>
    let s := s.giveBack j.owner j.reserved
    let s := s.setJob h.record { j with
      state := .held, reserved := 0, holdMinutes := s.holdTime j.owner.tenant }
    some (((s.leavePrinter p).countHeld j.owner).raise .jobReheld (toTenant j.owner.tenant))

/-- The record joins the tail of its tenant's completion list and leaves the submission list (R67, R72). -/
def State.complete (s : State) (n : RecordNo) (t : TenantNo) : State :=
  { s with
    submission := s.submission.filter (· ≠ n)
    completions := s.completions.wr t (s.completions.rd t ++ [n]) }

/-- The Finish move: none when it is refused at the record (R64, R67). -/
def State.finish (s : State) (h : Handle) (p : PrinterNo) (outcome : JobOutcome) : Option State :=
  match s.activeAt h p with
  | none => none
  | some j =>
    let s := s.giveBack j.owner j.reserved
    let s := s.setJob h.record { j with state := .complete outcome s.clock, reserved := 0 }
    some (((s.leavePrinter p).complete h.record j.owner.tenant).raise .jobFinished (toTenant j.owner.tenant))

/-- A job record freed, as one change (R60). -/
def State.freeRecord (s : State) (n : RecordNo) : State :=
  match s.jobAt n with
  | none => s
  | some j =>
    let h := s.handleOf n
    let s := s.forget h
    let s := if j.state = .held then s.uncountHeld j.owner else s
    let s := s.modTenant j.owner.tenant fun t => { t with liveJobs := t.liveJobs - 1 }
    { s with
      submission := s.submission.filter (· ≠ n)
      completions := s.completions.wr j.owner.tenant ((s.completions.rd j.owner.tenant).filter (· ≠ n))
      jobs := s.jobs.wr n ⟨h.generation + 1, none⟩
      freeList := s.freeList ++ [n] }

/-- The records of a predicate freed, in a free order (log 12). -/
def State.freeWhere (s : State) (which : Job → Bool) : State :=
  let picked := (List.finRange 1024).filter fun n => (s.jobAt n).any which
  let order := Config.freeOrder s.draws (picked.map (·.val))
  (order.filterMap (numberBelow 1024)).foldl State.freeRecord { s with draws := s.draws + 1 }

/-! ### The slots of a port (R175, R176) -/

/-- An answer placed in a port's answer slot (R175). -/
def State.placeAnswer (s : State) (n : PortNo) (a : Answer) : State :=
  s.setPort n { s.ports.rd n with answer := some a }

/-- The outcome of an enrolment handed to its requester, if the port's outstanding request is still the
ENROL PRINTER with the stored tag, and discarded otherwise (R15). -/
def State.answerEnrolment (s : State) (requester : Option (PortNo × Byte)) (status : Status)
    (body : List Byte) : State :=
  match requester with
  | none => s
  | some (n, tag) =>
    if (s.ports.rd n).outstanding = some ⟨Request.code .enrolPrinter, tag⟩ then
      s.placeAnswer n ⟨Request.code .enrolPrinter, tag, status, body⟩
    else s

/-- A failed enrolment: the record is ABSENT again and the requester is told the cause (R13, R14). -/
def State.failEnrolment (s : State) (p : PrinterNo) (requester : Option (PortNo × Byte)) (cause : EnrolCause) :
    State :=
  (s.setPrinter p .absent).answerEnrolment requester (.enrolFailed cause) []

end Sys2Proof.Machine
end

