-- ==== Sys2Proof/Machine/Charging.lean ====
section
/-! DEFINITION. Charging (chapter 6): the EXHAUSTED flags and their events (R41, R111), the check, the
reservation and the Grant move (R65, R102 to R106), and the charge of a SIDES report (R109, R110). -/

namespace Sys2Proof.Machine

/-- An account's EXHAUSTED flag set where its charged amount reaches its allowance; ACCOUNT EXHAUSTED is
raised when the flag goes from clear to set (R41, R111). -/
def State.exhaustAccount (s : State) (key : AccountKey) : State :=
  match s.account key with
  | none => s
  | some a =>
    if reaches a.allowance a.charged && !a.exhausted then
      (s.modAccount key fun a => { a with exhausted := true }).raise .accountExhausted (toTenant key.tenant)
    else s

/-- The ports that hear of POOL EXHAUSTED: the tenant's and the facilities port (Table 10.4). -/
def toTenantAndFacilities (t : TenantNo) (r : Role) : Bool := toTenant t r || toFacilities r

/-- A pool's EXHAUSTED flag set where pool charged reaches its allowance; POOL EXHAUSTED is raised when the
flag goes from clear to set (R41, R111). -/
def State.exhaustPool (s : State) (t : TenantNo) : State :=
  match s.tenants.rd t with
  | none => s
  | some x =>
    if reaches x.poolAllowance x.poolCharged && !x.poolExhausted then
      (s.setTenant t (some { x with poolExhausted := true })).raise .poolExhausted (toTenantAndFacilities t)
    else s

/-- The check at grant of a job at a printer: refused with a reason, or passed with the estimate (R102 to
R105). None when the job's account or tenant is not there, which no run reaches. -/
def State.checkGrant (s : State) (e : Enrolled) (j : Job) : Option (NoteReason ⊕ Nat) :=
  match s.account j.owner, s.tenants.rd j.owner.tenant with
  | some a, some t =>
    let est := estimate t.tariff e.descriptor.colour j
    match grantRefusal a t est with
    | some r => some (.inl r)
    | none => some (.inr est)
  | _, _ => none

/-- The reservation of an estimate and the Grant move, as one step, with the GRANT mark (R65, R90, R106). -/
def State.grant (s : State) (p : PrinterNo) (e : Enrolled) (h : Handle) (j : Job) (est : Nat) : State :=
  let s := s.modAccount j.owner fun a =>
    { a with reserved := a.reserved + est, heldJobs := a.heldJobs - 1 }
  let s := s.modTenant j.owner.tenant fun t => { t with poolReserved := t.poolReserved + est }
  let s := s.setJob h.record { j with
    state := .granted p (colourAsMono e.descriptor j) none, reserved := est }
  (s.setEnrolled p { e with activeJob := some h }).setMark p .grant

/-- A job after a charge of `n` sides (R110 steps 1 to 3). -/
def Job.chargedFor (j : Job) (colour : Bool) (n charge : Nat) : Job :=
  { j with
    reserved := j.reserved - min charge j.reserved
    charged := satAdd unitMax j.charged charge
    doneMono := if colour then j.doneMono else satAdd 65535 j.doneMono n
    doneColour := if colour then satAdd 65535 j.doneColour n else j.doneColour }

/-- The charge of a SIDES report of `n` sides, 1-16, of a job printing with flag `cam` (R109 to R111). -/
def State.chargeSides (s : State) (h : Handle) (j : Job) (cam colour : Bool) (n : Nat) : State :=
  match s.tenants.rd j.owner.tenant with
  | none => s
  | some t =>
    let charge := sideCharge t.tariff j cam colour n
    let d := min charge j.reserved
    let s := s.setJob h.record (j.chargedFor colour n charge)
    let s := s.modAccount j.owner fun a =>
      { a with reserved := a.reserved - d, charged := satAdd unitMax a.charged charge }
    let s := s.modTenant j.owner.tenant fun t =>
      { t with poolReserved := t.poolReserved - d, poolCharged := satAdd unitMax t.poolCharged charge }
    (s.exhaustAccount j.owner).exhaustPool j.owner.tenant

end Sys2Proof.Machine
end

