-- ==== Sys2Proof/Machine/Reorders.lean ====
section
/-! DEFINITION. The reorder list (chapter 8): its numbers, raising, upgrading and closing records, the
urgent test and the day-close test. The supplies requests stand in Supplies.lean. -/

namespace Sys2Proof.Machine

/-- The reorder number after another: 65,535 is followed by 1 (R136). -/
def succNumber (n : Nat) : Nat := if n < 65535 then n + 1 else 1

/-- The first number from `n` on that no record holds, looking at most `fuel` numbers further (R136). -/
def freeNumber (held : List Nat) : Nat → Nat → Nat
  | 0, n => n
  | fuel + 1, n => if n ∈ held then freeNumber held fuel (succNumber n) else n

/-- A record joins the tail of the list under the counter's number, and the counter advances (R136). -/
def State.addReorder (s : State) (r : Reorder) : State :=
  let reorders := s.reorders ++ [{ r with number := s.reorderCounter }]
  { s with
    reorders := reorders
    reorderCounter := freeNumber (reorders.map (·.number)) reorders.length (succNumber s.reorderCounter) }

/-- The open reorder of a slot, if it has one (R136). -/
def State.openReorder (s : State) (p : PrinterNo) (slot : Nat) : Option Reorder :=
  s.reorders.find? fun r => r.concerns p slot && r.state.isOpen

/-- A slot's record of an enrolled printer. -/
def State.slot (s : State) (p : PrinterNo) (slot : Nat) : Option Slot :=
  (s.enrolled p).bind (·.slots[slot]?)

/-- A reorder raised for a slot (R139). -/
def State.raiseReorder (s : State) (p : PrinterNo) (slot : Nat) (x : Slot) (u : Urgency) : State :=
  (s.addReorder ⟨0, p, slot, x.kind, u, .raised, s.clock, x.level, none, none⟩).raise .orderRaised toSupplies

/-- A record changed, by its number. -/
def State.modReorder (s : State) (number : Nat) (f : Reorder → Reorder) : State :=
  { s with reorders := s.reorders.map fun r => if r.number = number then f r else r }

/-- The slot's older closed record freed (R136). -/
def State.freeClosed (s : State) (p : PrinterNo) (slot : Nat) : State :=
  { s with reorders := s.reorders.filter fun r => !(r.concerns p slot && !r.state.isOpen) }

/-- An open record closed; the slot's older closed record is freed (R136, R141, R145). -/
def State.closeReorder (s : State) (r : Reorder) (state : ReorderState) : State :=
  (s.freeClosed r.printer r.slot).modReorder r.number fun r => { r with state := state }

/-- The urgent test of a slot (R138), with the raise (R139) or the upgrade (R140). -/
def State.urgentTest (s : State) (p : PrinterNo) (slot : Nat) : State :=
  match s.enrolled p, s.slot p slot with
  | some e, some x =>
    if x.urgent e.descriptor.floorPercent then
      match s.openReorder p slot with
      | none => s.raiseReorder p slot x .urgent
      | some r =>
        match r.urgency with
        | .normal => (s.modReorder r.number fun r => { r with urgency := .urgent }).raise .orderUrgent toSupplies
        | .urgent => s
    else s
  | _, _ => s

/-- The day-close test of a slot (R137). -/
def State.dayCloseTest (s : State) (p : PrinterNo) (slot : Nat) : State :=
  match s.slot p slot with
  | some x =>
    match s.openReorder p slot with
    | some _ => s
    | none => if x.withinMargin (s.leadDays + s.safetyDays) then s.raiseReorder p slot x .normal else s
  | none => s

/-- What a replacement does to the list; `before` is the slot as it stood before it (R141). The slot's older closed
record is freed before an UNPLANNED record joins, so that its number no longer counts as held when the counter
advances (R136; log 35). -/
def State.reorderReplaced (s : State) (p : PrinterNo) (slot : Nat) (before : Slot) : State :=
  let s := match s.openReorder p slot with
    | some r => s.closeReorder r .fulfilled
    | none => (s.freeClosed p slot).addReorder
        ⟨0, p, slot, before.kind, .normal, .unplanned, s.clock, before.level, none, none⟩
  s.raise .orderClosed toSupplies

/-- What REMOVE PRINTER does to the list: closed records of the printer freed, open ones made CANCELLED, and
ORDER CLOSED raised once if there were any (R142). -/
def State.reordersRemoved (s : State) (p : PrinterNo) : State :=
  let anyOpen := s.reorders.any fun r => decide (r.printer = p) && r.state.isOpen
  let s := { s with
    reorders := (s.reorders.filter fun r => !(decide (r.printer = p) && !r.state.isOpen)).map fun r =>
      if r.printer = p then { r with state := .cancelled } else r }
  if anyOpen then s.raise .orderClosed toSupplies else s

end Sys2Proof.Machine
end

