-- ==== Sys2Proof/Machine/Consumables.lean ====
section
/-! DEFINITION. The consumables unit (chapter 7): what a SIDES report, day close, a slot-empty code and a
CARTRIDGE report do to slot records, each with its hand-off to the reorder list. -/

namespace Sys2Proof.Machine

/-- A slot record of an enrolled printer written. -/
def State.setSlot (s : State) (p : PrinterNo) (slot : Nat) (x : Slot) : State :=
  match s.enrolled p with
  | some e => s.setEnrolled p { e with slots := e.slots.set slot x }
  | none => s

/-- The consumption of one slot for a report of `n` sides with the coverage sum of its entry, and its urgent
test (R121, R122). -/
def State.consumeSlot (s : State) (p : PrinterNo) (large : Bool) (n : Nat) (cover : Nat) (slot : Nat) : State :=
  match s.slot p slot with
  | some x => (s.setSlot p slot (x.consume (x.consumption large n cover))).urgentTest p slot
  | none => s

/-- The coverage sum of a slot entry in a SIDES body (Table 12.8). -/
def coverageAt (body : List Byte) (slot : Nat) : Nat := u16 body (4 + 2 * slot)

/-- The consumption of every slot of the printer, in slot order (R120, R122). -/
def State.consumeSides (s : State) (p : PrinterNo) (large : Bool) (n : Nat) (body : List Byte) : State :=
  (List.range (((s.enrolled p).map (·.slots.length)).getD 0)).foldl
    (fun s slot => s.consumeSlot p large n (coverageAt body slot) slot) s

/-- A SIDES report naming the printer's active job: charged and consumed (R108, R120). -/
def takeSides (p : PrinterNo) (body : List Byte) (s : State) : State × ReportAnswer :=
  let h := handleAt body 0
  match s.job h with
  | none => (s, .stale .notActive)
  | some j =>
    match j.state with
    | .printing _ cam | .suspended _ cam _ =>
      if u8 body 2 = 1 ∨ u8 body 2 = 2 then
        let n := min (u8 body 3) 16
        if n = 0 then (s, .taken)
        else ((s.chargeSides h j cam (decide (u8 body 2 = 2)) n).consumeSides p j.large n body, .taken)
      else (s, .stale .malformed)
    | _ => (s, .stale .notActive)

/-- One slot at day close: rated, then tested (R124, R137). -/
def State.closeSlot (s : State) (p : PrinterNo) (slot : Nat) : State :=
  match s.slot p slot with
  | some x => (s.setSlot p slot x.closeDay).dayCloseTest p slot
  | none => s

/-- The slots of every enrolled printer, each as printer number × 5 + slot number. -/
def State.allSlots (s : State) : List Nat :=
  (List.finRange 64).flatMap fun p =>
    (List.range (((s.enrolled p).map (·.slots.length)).getD 0)).map fun slot => p.val * 5 + slot

/-- A slot number of `State.allSlots` closed. -/
def State.closeSlotOf (s : State) (x : Nat) : State :=
  match numberBelow 64 (x / 5) with
  | some p => s.closeSlot p (x % 5)
  | none => s

/-- Day close: every slot of every enrolled printer, in a free order (R124, R191; log 13). -/
def State.closeDay (s : State) : State :=
  (Config.freeOrder s.draws s.allSlots).foldl State.closeSlotOf { s with draws := s.draws + 1 }

/-- A slot-empty code for a slot; a slot at or above the slot count is left alone (R127). -/
def State.emptySlot (s : State) (p : PrinterNo) (slot : Nat) : State :=
  match s.slot p slot with
  | some x => (s.setSlot p slot x.emptied).urgentTest p slot
  | none => s

end Sys2Proof.Machine
end

