-- ==== Sys2Proof/Machine/Conditions.lean ====
section
/-! DEFINITION. The conditions block (chapter 9): the condition set and its stop effects, suspension and
the re-holds it asks for, the callout list and the callout lines; and the cartridge replacement, which
may re-hold a suspended job (R131, R160). -/

namespace Sys2Proof.Machine

/-! ### The callout list and lines -/

/-- Whether a callout of a class is OPEN at any printer (R167). -/
def anyOpenCallout (callouts : Table 192 (Option Callout)) (cls : CondClass) : Bool :=
  (List.finRange 64).any fun p => (callouts.rd (calloutNo p cls)).any fun x => decide (x.state = .opened)

/-- A callout number's record written; its class's line follows (R167). -/
def State.setCallout (s : State) (p : PrinterNo) (cls : CondClass) (x : Option Callout) : State :=
  let callouts := s.callouts.wr (calloutNo p cls) x
  { s with callouts := callouts, lines := s.lines.set cls (anyOpenCallout callouts cls) }

/-- The callout record of a printer and class. -/
def State.callout (s : State) (p : PrinterNo) (cls : CondClass) : Option Callout :=
  s.callouts.rd (calloutNo p cls)

/-- The number of the open reorder that a SUPPLY slot-empty code links to (R163). -/
def State.linkedReorder (s : State) (p : PrinterNo) (cls : CondClass) (code : Byte) : Option Nat :=
  match slotEmptyOf cls code with
  | some slot => if (s.slot p slot).isSome then (s.openReorder p slot).map (·.number) else none
  | none => none

/-- The active job's handle when that job is SUSPENDED (R163). -/
def State.suspendedJob (s : State) (p : PrinterNo) : Option Handle :=
  match s.activeJob p with
  | some h => match s.job h with
    | some j => match j.state with
      | .suspended _ _ _ => some h
      | _ => none
    | none => none
  | none => none

/-- An OPEN or DISPATCHED record takes a replaced code (R165). -/
def State.calloutTakesCode (s : State) (p : PrinterNo) (cls : CondClass) (code : Byte) : State :=
  match s.callout p cls with
  | some x =>
    match x.state with
    | .cleared => s
    | _ => s.setCallout p cls (some { x with code := code, reorder := s.linkedReorder p cls code })
  | none => s

/-- An OPEN or DISPATCHED record becomes CLEARED, and CALLOUT CLEARED is raised (R166). -/
def State.clearCallout (s : State) (p : PrinterNo) (cls : CondClass) : State :=
  match s.callout p cls with
  | some x =>
    match x.state with
    | .cleared => s
    | _ => (s.setCallout p cls (some { x with state := .cleared })).raise .calloutCleared toFacilities
  | none => s

/-! ### Suspension and re-hold -/

/-- The re-hold of the printer's active job that the conditions block asks for: with the move, a REVOKE mark
and the end of the session; nothing when the move is refused at the record (R157). -/
def State.conditionRehold (s : State) (p : PrinterNo) : State :=
  match s.activeJob p with
  | none => s
  | some h =>
    match s.rehold h p with
    | some s => (s.setMark p .revoke).endSession p .printerStopped
    | none => s

/-- The Suspend move of a PRINTING job (R65, R155). -/
def State.suspend (s : State) (h : Handle) (j : Job) (p : PrinterNo) (cam : Bool) (limit : Nat) : State :=
  s.setJob h.record { j with state := .suspended p cam limit }

/-- The stop effects on the active job (Table 9.2). -/
def State.stopJob (s : State) (p : PrinterNo) (e : Enrolled) (noAnswer : Bool) : State :=
  match e.activeJob with
  | none => s
  | some h =>
    match s.activeAt h p with
    | none => s
    | some j =>
      match j.state with
      | .printing _ cam =>
        if e.descriptor.resumable then s.suspend h j p cam e.descriptor.suspendLimit else s.conditionRehold p
      | .suspended _ _ _ => if noAnswer then s.conditionRehold p else s
      | _ => s.conditionRehold p

/-- A SHOWING session ends with reason PRINTER STOPPED when a condition is raised (R99, Table 9.2). -/
def State.stopSession (s : State) (p : PrinterNo) : State :=
  match s.sessions.rd p with
  | some x => if x.releasing then s else s.endSession p .printerStopped
  | none => s

/-- The stop effects of a raised condition (R153). -/
def State.stopEffects (s : State) (p : PrinterNo) (noAnswer : Bool) : State :=
  match s.enrolled p with
  | some e => (s.stopJob p e noAnswer).stopSession p
  | none => s

/-! ### The condition set -/

/-- A class of the condition set and its grace timer written. -/
def State.setClass (s : State) (p : PrinterNo) (e : Enrolled) (cls : CondClass) (code : Byte) (timer : Option Nat) :
    State :=
  s.setEnrolled p { e with codes := e.codes.set cls code, grace := e.grace.set cls timer }

/-- The hand-off of a slot-empty code to the consumables unit (R127, R152). -/
def State.handSlotEmpty (s : State) (p : PrinterNo) (cls : CondClass) (code : Byte) : State :=
  match slotEmptyOf cls code with
  | some slot => s.emptySlot p slot
  | none => s

/-- A code above 0 taken into a class: stored when the class is clear, replaced when it differs, nothing
when it is held already; the slot-empty hand-off is made with the storing (R152; log 15). -/
def State.raiseCode (s : State) (p : PrinterNo) (cls : CondClass) (code : Byte) (noAnswer : Bool) : State :=
  match s.enrolled p with
  | none => s
  | some e =>
    if e.codes.get cls = 0 then
      ((s.setClass p e cls code (some (e.descriptor.grace.get cls))).handSlotEmpty p cls code).stopEffects p
        noAnswer
    else if e.codes.get cls = code then s.handSlotEmpty p cls code
    else
      (((s.setClass p e cls code (e.grace.get cls)).handSlotEmpty p cls code).calloutTakesCode p cls
        code).stopEffects p noAnswer

/-- A class cleared, with its grace timer and its callout (R154). -/
def State.clearClass (s : State) (p : PrinterNo) (cls : CondClass) : State :=
  match s.enrolled p with
  | none => s
  | some e => if e.codes.get cls = 0 then s else (s.setClass p e cls 0 none).clearCallout p cls

/-- NO ANSWER raised on an enrolled printer (R28, R151). -/
def State.raiseNoAnswer (s : State) (p : PrinterNo) : State := s.raiseCode p .service Config.noAnswer true

/-- NO ANSWER cleared, where it is still the code held (R29, R151). -/
def State.clearNoAnswer (s : State) (p : PrinterNo) : State :=
  match s.enrolled p with
  | some e => if e.codes.service = Config.noAnswer then s.clearClass p .service else s
  | none => s

/-- A CONDITION report (R152, R154). -/
def takeCondition (p : PrinterNo) (body : List Byte) (s : State) : State × ReportAnswer :=
  match condClassOf (u8 body 0) with
  | none => (s, .stale .malformed)
  | some cls =>
    let code := byteOf (u8 body 1)
    if cls = .service ∧ code = Config.noAnswer then (s, .stale .malformed)
    else if code = 0 then (s.clearClass p cls, .taken)
    else (s.raiseCode p cls code false, .taken)

/-! ### Callouts opening -/

/-- The callout of a printer and class opened, or reopened when it stands CLEARED, by the expiry of its grace
timer (R163, R164); a SERVICE callout re-holds a SUSPENDED job (R160). -/
def State.openCallout (s : State) (p : PrinterNo) (cls : CondClass) (code : Byte) : State :=
  let reopened (x : Callout) : Option Nat := match x.state with
    | .cleared => some (min (x.reopenCount + 1) 255)
    | _ => none
  let count := match s.callout p cls with
    | none => some 0
    | some x => reopened x
  match count with
  | none => s
  | some count =>
    let job := s.suspendedJob p
    let s1 := (s.setCallout p cls
      (some ⟨code, s.clock, .opened, count, s.linkedReorder p cls code, job⟩)).raise .calloutOpened toFacilities
    if cls = .service ∧ job.isSome then s1.conditionRehold p else s1

/-- The expiry of a grace timer: the timer stops and the class is handed to the callout list (R156). -/
def State.graceExpired (s : State) (p : PrinterNo) (cls : CondClass) : State :=
  match s.enrolled p with
  | none => s
  | some e =>
    if e.grace.get cls = some 0 then
      (s.setClass p e cls (e.codes.get cls) none).openCallout p cls (e.codes.get cls)
    else s

/-- The expiry of the suspend timer of the printer's active job (R159). -/
def State.suspendExpired (s : State) (p : PrinterNo) : State :=
  match s.activeJob p with
  | none => s
  | some h =>
    match s.activeAt h p with
    | none => s
    | some j =>
      match j.state with
      | .suspended _ _ 0 => s.conditionRehold p
      | _ => s

/-- A JOB RESUMED report naming the printer's active job: the Resume move (R65, R158). -/
def takeJobResumed (p : PrinterNo) (body : List Byte) (s : State) : State × ReportAnswer :=
  let h := handleAt body 0
  match s.activeAt h p with
  | some j =>
    match j.state with
    | .suspended _ cam _ => (s.setJob h.record { j with state := .printing p cam }, .taken)
    | _ => (s, .stale .notActive)
  | none => (s, .stale .notActive)

/-! ### Cartridge reports -/

/-- A replacement: the slot is full again, the reorder list is told, and a SUSPENDED job is re-held where the
descriptor lacks SWAP-KEEPS-JOB (R131, R160). -/
def State.replaceCartridge (s : State) (p : PrinterNo) (slot : Nat) (x : Slot) (identity : Word32) : State :=
  let s := (s.setSlot p slot (x.replaced identity)).reorderReplaced p slot x
  match s.enrolled p with
  | some e => if (s.suspendedJob p).isSome && !e.descriptor.swapKeepsJob then s.conditionRehold p else s
  | none => s

/-- A CARTRIDGE report: a removal, a reinsertion or a replacement (R129 to R131). -/
def takeCartridge (p : PrinterNo) (body : List Byte) (s : State) : State × ReportAnswer :=
  let slot := u8 body 0
  let identity := u32 body 1
  match s.slot p slot with
  | none => (s, .stale .malformed)
  | some x =>
    if identity = 0 then (s.setSlot p slot { x with present := false }, .taken)
    else if identity = x.identity then (s.setSlot p slot { x with present := true }, .taken)
    else (s.replaceCartridge p slot x identity, .taken)

end Sys2Proof.Machine
end

