-- ==== Sys2Proof/Machine/Release.lean ====
section
/-! DEFINITION. The release unit (chapter 5): presentation, the eligible list, selection, grant attempts, the
answers to a grant, JOB START, JOB END, LOGOUT and the expiries of the window and start timers. -/

namespace Sys2Proof.Machine

/-! ### Presentation (R81 to R84) -/

/-- The account of the printer's active job (R81 test 6). -/
def State.activeAccount (s : State) (p : PrinterNo) : Option AccountKey :=
  ((s.activeJob p).bind s.job).map (·.owner)

/-- Whether an account has a RELEASING session at another printer (R81 test 7). -/
def State.releasingElsewhere (s : State) (a : Account) (p : PrinterNo) : Bool :=
  match a.session with
  | some q => decide (q ≠ p) && (s.sessions.rd q).any (·.releasing)
  | none => false

/-- The tests of a presentation, in order: the reason of its refusal, or the account (Table 5.2). -/
def State.presentation (s : State) (p : PrinterNo) (e : Enrolled) (digest : Word32) : EndReason ⊕ Account :=
  if e.service ≠ .inService then .inl .outOfService
  else if !e.conditionsClear then .inl .printerStopped
  else match s.accountOfDigest digest with
    | none => .inl .unknownBadge
    | some a =>
      if a.barred then .inl .accountBarred
      else if !e.sharing.gives a.key.tenant then .inl .noAccess
      else if (s.activeAccount p).any (· ≠ a.key) then .inl .printerBusy
      else if s.releasingElsewhere a p then .inl .accountInSession
      else .inr a

/-- A refused presentation: END SESSION with the reason, and SHOW LIST for a standing SHOWING session (R82). -/
def State.refusePresentation (s : State) (p : PrinterNo) (reason : EndReason) : State :=
  let s1 := s.setEndSession p reason
  if (s.sessions.rd p).any (!·.releasing) then s1.setMark p .showList else s1

/-- A new session (R84). -/
def Session.fresh (key : AccountKey) (window : Nat) : Session :=
  ⟨false, key, Table.fill 8 none, [], some window, false, none⟩

/-- A new session opens at a printer (R84). -/
def State.openSession (s : State) (p : PrinterNo) (key : AccountKey) (window : Nat) : State :=
  ((s.setSession p (some (Session.fresh key window))).modAccount key
    fun a => { a with session := some p }).setMark p .showList

/-- A presentation by the session's own account (R83 case 3). -/
def State.refreshSession (s : State) (p : PrinterNo) (x : Session) (window : Nat) : State :=
  (s.setSession p (some (if x.releasing then { x with loggedOut := false }
    else { x with window := some window }))).setMark p .showList

/-- An accepted presentation (R83). -/
def State.acceptPresentation (s : State) (p : PrinterNo) (e : Enrolled) (a : Account) : State :=
  let s := match a.session with
    | some q => if q ≠ p then s.endSession q .moved else s
    | none => s
  match s.sessions.rd p with
  | some x =>
    if x.account = a.key then s.refreshSession p x e.descriptor.window
    else (s.endSession p .takenOver).openSession p a.key e.descriptor.window
  | none => s.openSession p a.key e.descriptor.window

/-- A PRESENT report, answered TAKEN whether it is refused or accepted (R81). -/
def takePresent (p : PrinterNo) (body : List Byte) (s : State) : State × ReportAnswer :=
  match s.enrolled p with
  | none => (s, .taken)
  | some e =>
    match s.presentation p e (u32 body 0) with
    | .inl reason => (s.refusePresentation p reason, .taken)
    | .inr a => (s.acceptPresentation p e a, .taken)

/-! ### The eligible list (R85) -/

/-- The tests of R85 on a record. -/
def State.qualifies (s : State) (p : PrinterNo) (e : Enrolled) (key : AccountKey) (n : RecordNo) : Bool :=
  match s.jobAt n with
  | some j =>
    decide (j.owner = key) && decide (j.state = .held) && !s.inRelease (s.handleOf n)
      && e.descriptor.fits j.large && (j.preferred.all (· = p))
  | none => false

/-- The handles of an eligible list, in submission order, at most 8 (R85). -/
def State.eligibleHandles (s : State) (p : PrinterNo) (e : Enrolled) (key : AccountKey) : List Handle :=
  ((s.submission.filter (s.qualifies p e key)).take 8).map s.handleOf

/-- The session's eligible list built afresh and its refusal note discarded, as a SHOW LIST frame is built
(R85). -/
def State.buildList (s : State) (p : PrinterNo) (e : Enrolled) (x : Session) : State :=
  let handles := s.eligibleHandles p e x.account
  s.setSession p (some { x with eligible := Table.tab fun i => handles[i.val]?, note := none })

/-- A position of a SHOW LIST frame: the job's tag and remaining sides (R85, R198). -/
def State.listEntry (s : State) (h : Option Handle) : Option (Nat × Nat) :=
  (h.bind s.job).map fun j => (j.tag, j.remainingMono + j.remainingColour)

/-! ### Grant attempts (R90, R91) -/

/-- A job dropped at the check, recorded in the refusal note (R90 case 2). -/
def State.noteRefusal (s : State) (p : PrinterNo) (reason : NoteReason) (tag : Nat) : State :=
  s.modSession p fun x => { x with note := some ⟨reason, tag, ((x.note.map (·.count)).getD 0) + 1⟩ }

/-- The handles of the release list taken from its head until one is granted or the list runs out (R90, R91). -/
def grantFrom (p : PrinterNo) (e : Enrolled) : List Handle → State → State
  | [], s => s.returnToShowing p
  | h :: rest, s =>
    let s := s.modSession p fun x => { x with release := rest }
    match s.job h with
    | none => grantFrom p e rest s
    | some j =>
      if j.state = .held then
        match s.checkGrant e j with
        | some (.inr est) => s.grant p e h j est
        | some (.inl reason) => grantFrom p e rest (s.noteRefusal p reason j.tag)
        | none => grantFrom p e rest s
      else grantFrom p e rest s

/-- A grant attempt, made when the printer and its session allow one (R90). -/
def State.grantAttempt (s : State) (p : PrinterNo) : State :=
  match s.enrolled p, s.sessions.rd p with
  | some e, some x =>
    if x.releasing && !x.release.isEmpty && decide (e.service = .inService) && e.conditionsClear
        && e.activeJob.isNone then grantFrom p e x.release s
    else s
  | _, _ => s

/-! ### Selection (R88) -/

/-- Whether the job at an eligible position may be chosen: it still qualifies by the tests of R85, and its
hold time has not run out at a minute mark already taken (R71, R72, R88; log 6). -/
def State.selectable (s : State) (p : PrinterNo) (e : Enrolled) (key : AccountKey) (h : Handle) : Bool :=
  match s.job h with
  | some j => s.qualifies p e key h.record && !j.expiryDue
  | none => false

/-- The positions that a SELECT body names, in position order (R198). -/
def selectedPositions (body : List Byte) : List (Fin 8) :=
  (List.finRange 8).filter fun k => decide (u8 body 1 ≠ 0) || (u8 body 0).testBit k.val

/-- The release list after handles have been appended to it one by one: a handle is passed over when it
stands in a release list already or may not be chosen, and none is appended beyond 8 (R88). -/
def State.appendChosen (s : State) (p : PrinterNo) (e : Enrolled) (key : AccountKey) :
    List Handle → List Handle → List Handle
  | [], release => release
  | h :: rest, release =>
    if release.length < 8 ∧ h ∉ release ∧ s.selectable p e key h then
      s.appendChosen p e key rest (release ++ [h])
    else s.appendChosen p e key rest release

/-- The release list that a SELECT leaves (R88). -/
def State.chosenList (s : State) (p : PrinterNo) (e : Enrolled) (x : Session) (body : List Byte) : List Handle :=
  s.appendChosen p e x.account ((selectedPositions body).filterMap x.eligible.rd) x.release

/-- A SELECT report (R88). -/
def takeSelect (p : PrinterNo) (body : List Byte) (s : State) : State × ReportAnswer :=
  match s.enrolled p, s.sessions.rd p with
  | some e, some x =>
    if x.releasing && x.loggedOut then (s, .stale .sessionEnded)
    else
      let release := s.chosenList p e x body
      if release.length = x.release.length then (s.setMark p .showList, .taken)
      else
        ((s.setSession p (some { x with releasing := true, window := none, release := release })).grantAttempt p,
          .taken)
  | _, _ => (s, .stale .sessionEnded)

/-! ### The answers to a grant (R93, R94) and the start of a job (R95, R96) -/

/-- The job of a handle when it is GRANTED at a printer, with its COLOUR-AS-MONO flag and start timer. -/
def State.grantedAt (s : State) (h : Handle) (p : PrinterNo) : Option (Job × Bool × Option Nat) :=
  match s.job h with
  | some j => match j.state with
    | .granted q cam timer => if q = p then some (j, cam, timer) else none
    | _ => none
  | none => none

/-- A re-hold that the release unit asks for: with the move, a REVOKE mark and the end of the session (R94,
R95, R99). -/
def State.releaseRehold (s : State) (h : Handle) (p : PrinterNo) (reason : EndReason) : State :=
  match s.rehold h p with
  | some s => (s.setMark p .revoke).endSession p reason
  | none => s

/-- An ACCEPTED grant starts the start timer, once (R93). -/
def State.grantAccepted (s : State) (h : Handle) (p : PrinterNo) : State :=
  match s.enrolled p, s.grantedAt h p with
  | some e, some (j, cam, none) =>
    s.setJob h.record { j with state := .granted p cam (some e.descriptor.startLimit) }
  | _, _ => s

/-- A REFUSED grant re-holds the job (R94). -/
def State.grantRefused (s : State) (h : Handle) (p : PrinterNo) : State :=
  match s.grantedAt h p with
  | some _ => s.releaseRehold h p .grantRefused
  | none => s

/-- The answer to a GRANT: ACCEPTED is a body of the one byte 01h, anything else is REFUSED (R27, R198). -/
def State.grantAnswered (s : State) (h : Handle) (p : PrinterNo) (body : List Byte) : State :=
  if body = [1] then s.grantAccepted h p else s.grantRefused h p

/-- The expiry of the start timer of the printer's active job (R95). -/
def State.startExpired (s : State) (p : PrinterNo) : State :=
  match s.activeJob p with
  | none => s
  | some h =>
    match s.grantedAt h p with
    | some (_, _, some 0) => s.releaseRehold h p .notStarted
    | _ => s

/-- A JOB START report naming the printer's active job (R65, R96). -/
def takeJobStart (p : PrinterNo) (body : List Byte) (s : State) : State × ReportAnswer :=
  let h := handleAt body 0
  match s.grantedAt h p with
  | some (j, cam, _) => (s.setJob h.record { j with state := .printing p cam }, .taken)
  | none => (s, .stale .notActive)

/-! ### The end of a job and of a session (R87, R97, R98) -/

/-- What the release unit does at the printer once its job has finished (R97). -/
def State.afterFinish (s : State) (p : PrinterNo) : State :=
  match s.enrolled p, s.sessions.rd p with
  | some e, some x =>
    if !x.releasing then s
    else if x.loggedOut then s.endSession p .sessionDone
    else if !e.conditionsClear then s.endSession p .printerStopped
    else if x.release.isEmpty then s.endSession p .sessionDone
    else s.grantAttempt p
  | _, _ => s

/-- The outcome a JOB END reports (Table 12.8). -/
def jobEndOutcome (x : Nat) : Option JobOutcome :=
  match x with
  | 1 => some .done
  | 2 => some .cancelled
  | _ => none

/-- A JOB END report naming the printer's active job (R67, R97). -/
def takeJobEnd (p : PrinterNo) (body : List Byte) (s : State) : State × ReportAnswer :=
  match jobEndOutcome (u8 body 2) with
  | none => (s, .stale .malformed)
  | some outcome =>
    match s.finish (handleAt body 0) p outcome with
    | some s => (s.afterFinish p, .taken)
    | none => (s, .stale .notActive)

/-- A LOGOUT report (R98). -/
def takeLogout (p : PrinterNo) (_body : List Byte) (s : State) : State × ReportAnswer :=
  match s.sessions.rd p with
  | none => (s, .stale .sessionEnded)
  | some x =>
    if !x.releasing then (s.endSession p .loggedOut, .taken)
    else if x.loggedOut then (s, .stale .sessionEnded)
    else if (s.activeJob p).isNone then (s.endSession p .loggedOut, .taken)
    else
      ((s.setSession p (some { x with release := [], loggedOut := true, note := none })).setEndSession p
        .loggedOut, .taken)

/-- The expiry of the window timer of a SHOWING session (R87). -/
def State.windowExpired (s : State) (p : PrinterNo) : State :=
  match s.sessions.rd p with
  | some x => if !x.releasing && decide (x.window = some 0) then s.endSession p .timedOut else s
  | none => s

end Sys2Proof.Machine
end

