-- ==== Sys2Proof/Machine/Riser.lean ====
section
/-! DEFINITION. The riser channels (chapter 2): the arbiter and the frames it sends, frames heard, answers,
reports, timeouts, and the commands that reach the controller on the floor side. -/

namespace Sys2Proof.Machine

/-! ### The arbiter (R24 to R26, R33) -/

/-- The marks of a position in their priority order (Table 2.1). -/
def Position.firstMark (x : Position) : Option MarkKind :=
  [MarkKind.revoke, .grant, .endSession, .showList, .describe, .probe].find? x.marked

/-- The lowest position of a channel with a mark set, and its highest mark (R25). -/
def State.chooseMark (s : State) (c : ChannelNo) : Option (PositionNo × MarkKind) :=
  (List.finRange 8).findSome? fun k => ((s.positions.rd (printerAt c k)).firstMark).map fun m => (k, m)

/-- The lowest position of a channel whose service request line is active (R25). -/
def State.chooseLine (s : State) (c : ChannelNo) : Option PositionNo :=
  (List.finRange 8).find? fun k => s.serviceLines.rd (printerAt c k)

/-- A mark cleared; a cleared END SESSION mark discards its end reason (R23, R24). -/
def State.clearMark (s : State) (p : PrinterNo) (kind : MarkKind) : State :=
  let x := (s.positions.rd p).withMark kind false
  s.setPosition p (if kind = .endSession then { x with endReason := none } else x)

/-- The frame of a mark, built from the records as they stand, with the state its building leaves; none when
the mark's matter has gone and it is dropped (R24, R85, R92). -/
def State.buildRequest (s : State) (p : PrinterNo) (kind : MarkKind) : Option (RiserRequest × State) :=
  match kind with
  | .revoke => some (.revoke (s.activeJob p), s)
  | .grant =>
    match s.activeJob p with
    | none => none
    | some h =>
      match s.grantedAt h p with
      | some (j, cam, _) => some (.grant h j.spool j.owner.tenant j.resumeFrom cam, s)
      | none => none
  | .endSession => some (.endSession (s.positions.rd p).endReason (sessionState (s.sessions.rd p)), s)
  | .showList =>
    match s.enrolled p, s.sessions.rd p with
    | some e, some x =>
      let s' := s.buildList p e x
      let eligible := ((s'.sessions.rd p).map (·.eligible)).getD (Table.fill 8 none)
      some (.showList (sessionState (some x)) (eligible.map s'.listEntry) x.note, s')
    | _, _ => none
  | .describe =>
    match s.printers.rd p with
    | .enrolling _ _ => some (.describe, s)
    | _ => none
  | .probe => if (s.enrolled p).isSome then some (.probe (s.positions.rd p).resync, s) else none

/-- The answer time of the adapter at a position: its descriptor's when enrolled, 2 s otherwise (R26, R33). -/
def State.answerTime (s : State) (p : PrinterNo) : Nat :=
  ((s.enrolled p).map (·.descriptor.answerTime)).getD Config.plainAnswerTime

/-- The arbiter's choice on an IDLE channel, made again after a dropped mark; each round clears a mark, so
that as many rounds as there are marks suffice (R24, R25). -/
def arbitrate (c : ChannelNo) : Nat → State → State
  | 0, s => s
  | rounds + 1, s =>
    match s.channels.rd c with
    | .idle =>
      match s.chooseMark c with
      | some (k, kind) =>
        match s.buildRequest (printerAt c k) kind with
        | some (frame, s') =>
          (s'.clearMark (printerAt c k) kind).setChannel c
            (.awaitingAnswer k frame (s.answerTime (printerAt c k)))
        | none => arbitrate c rounds (s.clearMark (printerAt c k) kind)
      | none =>
        match s.chooseLine c with
        | some k => s.setChannel c (.awaitingReport k (s.answerTime (printerAt c k)))
        | none => s
    | _ => s

/-- Eight positions of six marks, and one round to send or call. -/
def arbiterRounds : Nat := 49

/-- The arbiters of all channels, at the end of a step that may have set marks, raised a line or made a
channel IDLE (R25; log 7). -/
def State.serveChannels (s : State) : State :=
  (List.finRange 8).foldl (fun s c => arbitrate c arbiterRounds s) s

/-! ### Frames heard (R29) -/

/-- The effects of a frame heard from a position; `keep` is set for the CONDITION report of class SERVICE
that is taken, which acts on NO ANSWER by its own rule (R29; log 10). -/
def State.heard (s : State) (p : PrinterNo) (keep : Bool) : State :=
  match s.enrolled p with
  | none => s
  | some _ =>
    let s := s.setPosition p { s.positions.rd p with silence := some Config.silenceLimit }
    if keep then s else s.clearNoAnswer p

/-! ### Answers to requests (R27) -/

/-- The ENROLLED answer's fields (R13; log 18): printer number, capability flags, and the slots. -/
def enrolledBody (p : PrinterNo) (d : Descriptor) (slots : List Slot) : List Byte :=
  be1 p.val ++ capabilityByte d ++ runField (fun x => be1 x.kind.code ++ be3 x.capacity) slots

/-- The record made from a valid descriptor (R12, R13). -/
def enrolledOf (sharing : Sharing) (d : List Byte) : Enrolled :=
  ⟨.inService, sharing, descriptorOf d, ⟨0, 0, 0⟩, ⟨none, none, none⟩, none, slotsOf d⟩

/-- The DESCRIBE answer (R13): the printer IN_SERVICE with its silence timer running, or ABSENT again. -/
def State.described (s : State) (p : PrinterNo) (body : List Byte) : State :=
  match s.printers.rd p with
  | .enrolling sharing requester =>
    if descriptorValid body then
      let e := enrolledOf sharing body
      let s := s.setEnrolled p e
      let s := s.setPosition p { s.positions.rd p with silence := some Config.silenceLimit }
      s.answerEnrolment requester .enrolled (enrolledBody p e.descriptor e.slots)
    else s.failEnrolment p requester .badDescriptor
  | _ => s

/-- The answer to the request in flight, handed to its owner (R27, R32). -/
def State.answered (s : State) (p : PrinterNo) (sent : RiserRequest) (body : List Byte) : State :=
  match sent with
  | .describe => s.described p body
  | .grant h _ _ _ _ => s.grantAnswered h p body
  | .probe true => s.setPosition p { s.positions.rd p with resync := false }
  | .probe false => s
  | .revoke _ | .endSession _ _ | .showList _ _ _ => s

/-- An ANSWER frame of a kind from a position: the answer to the in-flight transaction, or a stray frame; a
body over 48 bytes is heard from no position (R27, R29, R30). -/
def State.answerFrame (s : State) (c : ChannelNo) (k : PositionNo) (kind : Byte) (body : List Byte) : State :=
  let p := printerAt c k
  if riserBodyMax < body.length then s
  else match s.channels.rd c with
    | .awaitingAnswer k' sent _ =>
      if k' = k ∧ sent.kind.code = kind.toNat then
        (((s.heard p false).setChannel c .idle).answered p sent body).serveChannels
      else s.heard p false
    | _ => s.heard p false

/-! ### Reports (R33 to R35) -/

/-- What a report kind is examined for: its body length, whether it names a job, and what takes it. -/
structure ReportRule where
  length : Nat
  namesJob : Bool
  kind : Nat
deriving DecidableEq, Repr

/-- The report kinds of Table 12.8. -/
def reportRule (kind : Byte) : Option ReportRule :=
  match kind.toNat with
  | 0x10 => some ⟨4, false, 0x10⟩
  | 0x11 => some ⟨2, false, 0x11⟩
  | 0x12 => some ⟨0, false, 0x12⟩
  | 0x13 => some ⟨2, true, 0x13⟩
  | 0x14 => some ⟨14, true, 0x14⟩
  | 0x15 => some ⟨2, true, 0x15⟩
  | 0x16 => some ⟨3, true, 0x16⟩
  | 0x17 => some ⟨2, false, 0x17⟩
  | 0x18 => some ⟨5, false, 0x18⟩
  | _ => none

/-- The owner of a report that has passed the tests of R34 (Table 2.2). -/
def takeReport (kind : Nat) (p : PrinterNo) (body : List Byte) (s : State) : State × ReportAnswer :=
  match kind with
  | 0x10 => takePresent p body s
  | 0x11 => takeSelect p body s
  | 0x12 => takeLogout p body s
  | 0x13 => takeJobStart p body s
  | 0x14 => takeSides p body s
  | 0x15 => takeJobResumed p body s
  | 0x16 => takeJobEnd p body s
  | 0x17 => takeCondition p body s
  | _ => takeCartridge p body s

/-- A report from the called position examined, in the order of R34, and taken by its owner. -/
def examineReport (kind : Byte) (p : PrinterNo) (body : List Byte) (s : State) : State × ReportAnswer :=
  match s.enrolled p with
  | none => (s, .stale .notEnrolled)
  | some e =>
    match reportRule kind with
    | none => (s, .stale .unknownKind)
    | some r =>
      if body.length ≠ r.length then (s, .stale .malformed)
      else if r.namesJob && decide (e.activeJob ≠ some (handleAt body 0)) then (s, .stale .notActive)
      else takeReport r.kind p body s

/-- Whether a frame is a CONDITION report of class SERVICE (R29). -/
def isServiceCondition (kind : Byte) (body : List Byte) : Bool :=
  decide (kind = 0x17) && decide (body.length = 2) && decide (u8 body 0 = 3)

/-- The report transaction ended: the answer sent, the line at its new level, the channel IDLE (R34). -/
def State.endReport (s : State) (c : ChannelNo) (k : PositionNo) (line : Bool) (answer : Option ReportAnswer) :
    State :=
  let s := (s.setLine (printerAt c k) line).setChannel c .idle
  match answer with
  | some a => { s with reportAnswers := s.reportAnswers.wr c (some (k, a)) }
  | none => s

/-- A REPORT frame of a kind from a position: the report of the in-flight CALL, or a stray frame (R30, R33,
R34). An empty NOTHING is answered with nothing (R33). -/
def State.reportFrame (s : State) (c : ChannelNo) (k : PositionNo) (kind : Byte) (body : List Byte) (line : Bool) :
    State :=
  let p := printerAt c k
  if riserBodyMax < body.length then s
  else match s.channels.rd c with
    | .awaitingReport k' _ =>
      if k' = k then
        if kind = 0 ∧ body = [] then ((s.heard p false).endReport c k line none).serveChannels
        else
          let (s, answer) := examineReport kind p body (s.heard p (isServiceCondition kind body))
          (s.endReport c k line (some answer)).serveChannels
      else s.heard p false
    | _ => s.heard p false

/-- Any adapter frame by its class byte (Table 12.7): an ANSWER, a REPORT, or a frame that can only be stray
(R30). -/
def State.adapterFrame (s : State) (c : ChannelNo) (k : PositionNo) (cls kind : Byte) (body : List Byte)
    (line : Bool) : State :=
  if cls = 2 then s.answerFrame c k kind body
  else if cls = 3 then s.reportFrame c k kind body line
  else if riserBodyMax < body.length then s
  else s.heard (printerAt c k) false

/-! ### Timeouts (R28, R36) -/

/-- The expiry of the answer timer of a request transaction (R28; log 11). -/
def State.requestTimeout (s : State) (c : ChannelNo) : State :=
  match s.channels.rd c with
  | .awaitingAnswer k sent _ =>
    let p := printerAt c k
    let s := s.setChannel c .idle
    match s.printers.rd p with
    | .enrolled _ => s.raiseNoAnswer p
    | .enrolling _ requester => if sent = .describe then s.failEnrolment p requester .noAnswer else s
    | .absent => s
  | _ => s

/-- The expiry of the answer timer of a report transaction (R36). -/
def State.callTimeout (s : State) (c : ChannelNo) : State :=
  match s.channels.rd c with
  | .awaitingReport k _ => (s.setChannel c .idle).raiseNoAnswer (printerAt c k)
  | _ => s

/-- The expiry of a position's silence timer (R31). -/
def State.silenceExpired (s : State) (p : PrinterNo) : State :=
  if (s.positions.rd p).silence = some 0 then
    s.setPosition p { (s.positions.rd p).withMark .probe true with silence := some Config.silenceLimit }
  else s

/-! ### The commands -/

def execWindowTimerExpiry (p : PrinterNo) (s : State) : Host.Outcome State Fault Refusal :=
  .next (s.windowExpired p).serveChannels

def execStartTimerExpiry (p : PrinterNo) (s : State) : Host.Outcome State Fault Refusal :=
  .next (s.startExpired p).serveChannels

def execSuspendTimerExpiry (p : PrinterNo) (s : State) : Host.Outcome State Fault Refusal :=
  .next (s.suspendExpired p).serveChannels

def execGraceTimerExpiry (p : PrinterNo) (cls : CondClass) (s : State) : Host.Outcome State Fault Refusal :=
  .next (s.graceExpired p cls).serveChannels

def execSilenceTimerExpiry (c : ChannelNo) (k : PositionNo) (s : State) : Host.Outcome State Fault Refusal :=
  .next (s.silenceExpired (printerAt c k)).serveChannels

def execRequestAnswerTimeout (c : ChannelNo) (s : State) : Host.Outcome State Fault Refusal :=
  .next (s.requestTimeout c).serveChannels

def execReportCallTimeout (c : ChannelNo) (s : State) : Host.Outcome State Fault Refusal :=
  .next (s.callTimeout c).serveChannels

/-- R25: the line is active from now on, until a report or a NOTHING of the position brings its level. -/
def execServiceRequestActive (c : ChannelNo) (k : PositionNo) (s : State) : Host.Outcome State Fault Refusal :=
  .next (s.setLine (printerAt c k) true).serveChannels

def execDescribeAnswer (c : ChannelNo) (k : PositionNo) (body : List Byte) (s : State) :
    Host.Outcome State Fault Refusal :=
  .next (s.answerFrame c k 0x05 body)

def execGrantAnswer (c : ChannelNo) (k : PositionNo) (body : List Byte) (s : State) :
    Host.Outcome State Fault Refusal :=
  .next (s.answerFrame c k 0x02 body)

def execAcknowledgementAnswer (c : ChannelNo) (k : PositionNo) (kind : Byte) (body : List Byte) (s : State) :
    Host.Outcome State Fault Refusal :=
  .next (s.answerFrame c k kind body)

def execProbeAnswer (c : ChannelNo) (k : PositionNo) (body : List Byte) (s : State) :
    Host.Outcome State Fault Refusal :=
  .next (s.answerFrame c k 0x06 body)

/-- R30. A frame that does belong to the in-flight transaction is taken as its class and kind say (log 2); the
service request line of its position stays as it is. -/
def execStrayFrame (c : ChannelNo) (k : PositionNo) (cls kind : Byte) (body : List Byte) (s : State) :
    Host.Outcome State Fault Refusal :=
  .next (s.adapterFrame c k cls kind body (s.serviceLines.rd (printerAt c k)))

/-- R29. Bytes that hold no good frame are discarded and heard from no position; bytes that do hold one are
taken as that frame (log 2). -/
def execRiserFrameDiscarded (c : ChannelNo) (bytes : List Byte) (s : State) : Host.Outcome State Fault Refusal :=
  match RiserFrame.receive bytes with
  | none => .next s
  | some f => .next (s.adapterFrame c f.position f.cls f.kind f.body (s.serviceLines.rd (printerAt c f.position)))

def execNothing (c : ChannelNo) (k : PositionNo) (line : Bool) (s : State) : Host.Outcome State Fault Refusal :=
  .next (s.reportFrame c k 0x00 [] line)

def execUnknownKind (c : ChannelNo) (k : PositionNo) (kind : Byte) (body : List Byte) (line : Bool) (s : State) :
    Host.Outcome State Fault Refusal :=
  .next (s.reportFrame c k kind body line)

def execPresent (c : ChannelNo) (k : PositionNo) (body : List Byte) (line : Bool) (s : State) :
    Host.Outcome State Fault Refusal :=
  .next (s.reportFrame c k 0x10 body line)

def execSelect (c : ChannelNo) (k : PositionNo) (body : List Byte) (line : Bool) (s : State) :
    Host.Outcome State Fault Refusal :=
  .next (s.reportFrame c k 0x11 body line)

def execLogout (c : ChannelNo) (k : PositionNo) (body : List Byte) (line : Bool) (s : State) :
    Host.Outcome State Fault Refusal :=
  .next (s.reportFrame c k 0x12 body line)

def execJobStart (c : ChannelNo) (k : PositionNo) (body : List Byte) (line : Bool) (s : State) :
    Host.Outcome State Fault Refusal :=
  .next (s.reportFrame c k 0x13 body line)

def execSides (c : ChannelNo) (k : PositionNo) (body : List Byte) (line : Bool) (s : State) :
    Host.Outcome State Fault Refusal :=
  .next (s.reportFrame c k 0x14 body line)

def execJobResumed (c : ChannelNo) (k : PositionNo) (body : List Byte) (line : Bool) (s : State) :
    Host.Outcome State Fault Refusal :=
  .next (s.reportFrame c k 0x15 body line)

def execJobEnd (c : ChannelNo) (k : PositionNo) (body : List Byte) (line : Bool) (s : State) :
    Host.Outcome State Fault Refusal :=
  .next (s.reportFrame c k 0x16 body line)

def execCondition (c : ChannelNo) (k : PositionNo) (body : List Byte) (line : Bool) (s : State) :
    Host.Outcome State Fault Refusal :=
  .next (s.reportFrame c k 0x17 body line)

def execCartridge (c : ChannelNo) (k : PositionNo) (body : List Byte) (line : Bool) (s : State) :
    Host.Outcome State Fault Refusal :=
  .next (s.reportFrame c k 0x18 body line)

end Sys2Proof.Machine
end

