-- ==== Sys2Proof/Machine/Tower.lean ====
section
/-! DEFINITION. What a tower link port does before and after the work of a request (chapter 10): acceptance,
OVERLAP, permission, the answer slot, the transmitter; and the commands of the transmitter. -/

namespace Sys2Proof.Machine

/-- What a block answers: the status and the body of the answer (R175, R177). -/
structure Reply where
  status : Status
  body : List Byte
deriving DecidableEq, Repr

/-- A request accepted, with the body of its answer. -/
def accept (body : List Byte) (s : State) : State × Option Reply := (s, some ⟨.accepted, body⟩)

/-- A request refused: it changes no record (R177). -/
def refuse (r : Reason) (s : State) : State × Option Reply := (s, some ⟨.refused r, []⟩)

/-- A request that stands as the port's outstanding request (R174 step 2). -/
def State.beginRequest (s : State) (port : PortNo) (code tag : Byte) : State :=
  s.setPort port { s.ports.rd port with outstanding := some ⟨code, tag⟩ }

/-- An overlapping request: OVERLAP in an empty overlap slot, discarded otherwise (R176). -/
def State.overlapped (s : State) (port : PortNo) (code tag : Byte) : State :=
  match (s.ports.rd port).overlap with
  | some _ => s
  | none => s.setPort port { s.ports.rd port with overlap := some ⟨code, tag, .refused .overlap, []⟩ }

/-- The answer a block gave, in the answer slot; ENROL PRINTER gives none yet (R175). -/
def State.reply (s : State) (port : PortNo) (code tag : Byte) (r : Option Reply) : State :=
  match r with
  | some r => s.placeAnswer port ⟨code, tag, r.status, r.body⟩
  | none => s

/-- A request frame received whole on a port, examined as R174 gives; `work` is what the block that owns the
request does with it. -/
def State.takeRequest (s : State) (r : Request) (port : PortNo) (tag : Byte) (body : List Byte)
    (work : State → State × Option Reply) : State :=
  if towerBodyMax < body.length then s
  else if (s.ports.rd port).outstanding.isSome then s.overlapped port r.code tag
  else
    let s1 := s.beginRequest port r.code tag
    if permits r (s.ports.rd port).role then (work s1).1.reply port r.code tag (work s1).2
    else s1.reply port r.code tag (some ⟨.refused .notPermitted, []⟩)

/-- A request frame whose code names no request (R174 step 3). -/
def State.takeUnknown (s : State) (port : PortNo) (code tag : Byte) (body : List Byte) : State :=
  if towerBodyMax < body.length then s
  else if (s.ports.rd port).outstanding.isSome then s.overlapped port code tag
  else (s.beginRequest port code tag).reply port code tag (some ⟨.refused .unknownRequest, []⟩)

/-- The work of a tenant request, on the asking port's tenant (R178). -/
def onTenant (s : State) (port : PortNo) (work : TenantNo → State → State × Option Reply) :
    State × Option Reply :=
  match (s.ports.rd port).role with
  | .tenant t => work t s
  | _ => refuse .notPermitted s

/-! ### The transmitter (R179, R181) -/

/-- An idle transmitter begins the answer, else the OVERLAP answer, else the attention frame; an attention
frame whose masked set is empty is dropped (R179, R181). -/
def Port.begin (p : Port) : Port :=
  match p.transmitter with
  | .idle =>
    match p.answer, p.overlap with
    | some a, _ => { p with transmitter := .answer a }
    | none, some a => { p with transmitter := .overlap a }
    | none, none =>
      if p.attention then
        { p with attention := false, transmitter := if p.masked = 0 then .idle else .attention p.masked }
      else p
  | _ => p

/-- The frame in transmission has been sent whole (R175, R176, R179). -/
def Port.sent (p : Port) : Port :=
  match p.transmitter with
  | .idle => p
  | .answer _ => { p with transmitter := .idle, answer := none, outstanding := none }
  | .overlap _ => { p with transmitter := .idle, overlap := none }
  | .attention _ => { p with transmitter := .idle }

def execTransmitterBegin (port : PortNo) (s : State) : Host.Outcome State Fault Refusal :=
  .next (s.setPort port (s.ports.rd port).begin)

def execFrameSentWhole (port : PortNo) (s : State) : Host.Outcome State Fault Refusal :=
  .next (s.setPort port (s.ports.rd port).sent)

/-! ### Ports reset and bound (R184, R185) -/

/-- The frame in transmission cut, the slots emptied, the outstanding request cleared (R184, R185). -/
def Port.cut (p : Port) : Port :=
  { p with outstanding := none, answer := none, overlap := none, attention := false, transmitter := .idle }

/-- A port reset: its role, raw set and mask are kept, and pending classes queue an attention frame (R184). -/
def Port.reset (p : Port) : Port := { p.cut with attention := decide (p.masked ≠ 0) }

/-- A port of a new role (R185). -/
def Port.bind (p : Port) (role : Role) : Port := { p.cut with role := role, raw := 0, mask := 0 }

/-- The enrolment requester of any ENROLLING record cleared (R184). -/
def Printer.forgetRequester : Printer → Printer
  | .enrolling sh _ => .enrolling sh none
  | p => p

/-- RESET PORT done on a port (R184). -/
def State.resetPort (s : State) (port : PortNo) : State :=
  let s := s.setPort port (s.ports.rd port).reset
  if port = 0 then { s with printers := s.printers.map Printer.forgetRequester } else s

/-- BIND PORT done on a port (R185). -/
def State.bindPort (s : State) (port : PortNo) (role : Role) : State :=
  s.setPort port ((s.ports.rd port).bind role)

/-- Every port of a tenant made UNBOUND (R45, R185). -/
def State.unbindTenant (s : State) (t : TenantNo) : State :=
  { s with ports := s.ports.map fun p => if p.role = .tenant t then p.bind .unbound else p }

/-- RESET PORT's work on a named port (R184). -/
def workResetPort (body : List Byte) (s : State) : State × Option Reply :=
  if body.length ≠ 1 then refuse .malformed s
  else match numberBelow 8 (u8 body 0) with
    | none => refuse .malformed s
    | some n => accept [] (s.resetPort n)

/-- R184. RESET PORT naming port 0 on port 0 is done first and then stands as the outstanding request
(R174 step 1). -/
def execResetPort (port : PortNo) (tag : Byte) (body : List Byte) (s : State) :
    Host.Outcome State Fault Refusal :=
  if port = 0 ∧ body = [0] then
    .next (((s.resetPort 0).beginRequest 0 (Request.code .resetPort) tag).reply 0 (Request.code .resetPort) tag
      (some ⟨.accepted, []⟩))
  else .next (s.takeRequest .resetPort port tag body (workResetPort body))

/-- The role that a BIND PORT body gives (R185; log 19): none when it is malformed. -/
def boundRole (body : List Byte) : Option Role :=
  match u8 body 1 with
  | 1 => if body.length = 3 then (tenantOf (u8 body 2)).map .tenant else none
  | 2 => if body.length = 2 then some .supplies else none
  | 3 => if body.length = 2 then some .unbound else none
  | _ => none

/-- Whether a tenant record is DEFINED. -/
def State.defined (s : State) (t : TenantNo) : Bool := (s.tenants.rd t).isSome

/-- Whether another port than the named one holds SUPPLIES (R185). -/
def State.suppliesElsewhere (s : State) (n : PortNo) : Bool :=
  (List.finRange 8).any fun m => decide (m ≠ n) && decide ((s.ports.rd m).role = .supplies)

/-- BIND PORT's work (R185). -/
def workBindPort (body : List Byte) (s : State) : State × Option Reply :=
  match numberBelow 8 (u8 body 0), boundRole body with
  | some n, some role =>
    if n = 0 then refuse .wrongState s
    else match role with
      | .tenant t => if s.defined t then accept [] (s.bindPort n role) else refuse .noSuch s
      | .supplies => if s.suppliesElsewhere n then refuse .wrongState s else accept [] (s.bindPort n role)
      | _ => accept [] (s.bindPort n role)
  | _, _ => refuse .malformed s

def execBindPort (port : PortNo) (tag : Byte) (body : List Byte) (s : State) :
    Host.Outcome State Fault Refusal :=
  .next (s.takeRequest .bindPort port tag body (workBindPort body))

/-! ### Reading ports (R182, R183, R186) -/

/-- READ ATTENTION's work (R182). -/
def workReadAttention (port : PortNo) (body : List Byte) (s : State) : State × Option Reply :=
  if body.length ≠ 0 then refuse .malformed s
  else
    let p := s.ports.rd port
    accept (be1 port.val ++ roleBytes p.role ++ attentionSetBytes p.raw ++ attentionSetBytes p.mask
      ++ attentionSetBytes p.masked) s

def execReadAttention (port : PortNo) (tag : Byte) (body : List Byte) (s : State) :
    Host.Outcome State Fault Refusal :=
  .next (s.takeRequest .readAttention port tag body (workReadAttention port body))

/-- CLEAR ATTENTION's work (R183). -/
def workClearAttention (port : PortNo) (body : List Byte) (s : State) : State × Option Reply :=
  if body.length ≠ 2 then refuse .malformed s
  else match attentionSetAt body 0 with
    | none => refuse .malformed s
    | some set =>
      let p := s.ports.rd port
      let raw := p.raw &&& ~~~set
      accept (attentionSetBytes raw) (s.setPort port { p with raw := raw })

def execClearAttention (port : PortNo) (tag : Byte) (body : List Byte) (s : State) :
    Host.Outcome State Fault Refusal :=
  .next (s.takeRequest .clearAttention port tag body (workClearAttention port body))

/-- SET MASK's work (R183). -/
def workSetMask (port : PortNo) (body : List Byte) (s : State) : State × Option Reply :=
  if body.length ≠ 2 then refuse .malformed s
  else match attentionSetAt body 0 with
    | none => refuse .malformed s
    | some mask =>
      let p := (s.ports.rd port).withSets (s.ports.rd port).raw mask
      accept (attentionSetBytes mask ++ attentionSetBytes p.masked) (s.setPort port p)

def execSetMask (port : PortNo) (tag : Byte) (body : List Byte) (s : State) :
    Host.Outcome State Fault Refusal :=
  .next (s.takeRequest .setMask port tag body (workSetMask port body))

/-- The fields of a QUERY PORT answer (R186). The code and tag of an outstanding request follow its flag where it is
set, and are left out where it is clear (log 34). -/
def portBody (p : Port) : List Byte :=
  roleBytes p.role
    ++ (match p.outstanding with
        | some o => flagByte true ++ [o.code, o.tag]
        | none => flagByte false)
    ++ flagByte p.answer.isSome ++ flagByte p.overlap.isSome ++ flagByte p.attention
    ++ attentionSetBytes p.raw ++ attentionSetBytes p.mask

/-- QUERY PORT's work (R186). -/
def workQueryPort (body : List Byte) (s : State) : State × Option Reply :=
  if body.length ≠ 1 then refuse .malformed s
  else match numberBelow 8 (u8 body 0) with
    | none => refuse .malformed s
    | some n => accept (portBody (s.ports.rd n)) s

def execQueryPort (port : PortNo) (tag : Byte) (body : List Byte) (s : State) :
    Host.Outcome State Fault Refusal :=
  .next (s.takeRequest .queryPort port tag body (workQueryPort body))

end Sys2Proof.Machine
end

