-- ==== Sys2Proof/Machine/Printers.lean ====
section
/-! DEFINITION. The printer requests of the facilities station and QUERY PRINTER (chapter 1), and RESET CHANNEL
(R37). A request that may set marks ends with the arbiters' choice. -/

namespace Sys2Proof.Machine

/-! ### Enrolment (R13) -/

/-- Whether every tenant a sharing names is DEFINED (R13, R18). -/
def State.sharingDefined (s : State) (sh : Sharing) : Bool := sh.named.all s.defined

/-- ENROL PRINTER's work (R13): channel, position, sharing. The answer comes when the enrolment ends (R175). -/
def workEnrolPrinter (port : PortNo) (tag : Byte) (body : List Byte) (s : State) : State × Option Reply :=
  if body.length ≠ 5 then refuse .malformed s
  else match numberBelow 8 (u8 body 0), numberBelow 8 (u8 body 1), sharingAt body 2 with
    | some c, some k, some sh =>
      if !s.sharingDefined sh then refuse .noSuch s
      else match s.printers.rd (printerAt c k) with
        | .absent =>
          ((s.setPrinter (printerAt c k) (.enrolling sh (some (port, tag)))).setMark (printerAt c k) .describe, none)
        | _ => refuse .wrongState s
    | _, _, _ => refuse .malformed s

def execEnrolPrinter (port : PortNo) (tag : Byte) (body : List Byte) (s : State) :
    Host.Outcome State Fault Refusal :=
  .next (s.takeRequest .enrolPrinter port tag body (workEnrolPrinter port tag body)).serveChannels

/-! ### Service state, sharing, removal (R16 to R19) -/

/-- A request whose body is one printer number, 0-63 (R16). -/
def onPrinter (body : List Byte) (s : State) (work : PrinterNo → State → State × Option Reply) :
    State × Option Reply :=
  if body.length ≠ 1 then refuse .malformed s
  else match numberBelow 64 (u8 body 0) with
    | some p => work p s
    | none => refuse .malformed s

/-- DISABLE PRINTER's work (R16). -/
def workDisablePrinter (p : PrinterNo) (s : State) : State × Option Reply :=
  match s.enrolled p with
  | none => refuse .wrongState s
  | some e =>
    match e.service with
    | .inService =>
      let after := if e.activeJob.isSome then Service.draining else .disabled
      accept [] ((s.setEnrolled p { e with service := after }).endSession p .outOfService)
    | _ => accept [] s

def execDisablePrinter (port : PortNo) (tag : Byte) (body : List Byte) (s : State) :
    Host.Outcome State Fault Refusal :=
  .next (s.takeRequest .disablePrinter port tag body fun s => onPrinter body s workDisablePrinter).serveChannels

/-- ENABLE PRINTER's work (R17). -/
def workEnablePrinter (p : PrinterNo) (s : State) : State × Option Reply :=
  match s.enrolled p with
  | none => refuse .wrongState s
  | some e => accept [] (s.setEnrolled p { e with service := .inService })

def execEnablePrinter (port : PortNo) (tag : Byte) (body : List Byte) (s : State) :
    Host.Outcome State Fault Refusal :=
  .next (s.takeRequest .enablePrinter port tag body fun s => onPrinter body s workEnablePrinter)

/-- The callout records of a printer freed (R19, R162). -/
def State.freeCallouts (s : State) (p : PrinterNo) : State :=
  ((s.setCallout p .user none).setCallout p .supply none).setCallout p .service none

/-- REMOVE PRINTER's work (R19, R142). -/
def workRemovePrinter (p : PrinterNo) (s : State) : State × Option Reply :=
  match s.enrolled p with
  | none => refuse .wrongState s
  | some e =>
    match e.service with
    | .disabled =>
      accept [] ((((s.freeCallouts p).reordersRemoved p).setPosition p Position.clear).setPrinter p .absent)
    | _ => refuse .wrongState s

def execRemovePrinter (port : PortNo) (tag : Byte) (body : List Byte) (s : State) :
    Host.Outcome State Fault Refusal :=
  .next (s.takeRequest .removePrinter port tag body fun s => onPrinter body s workRemovePrinter)

/-- The session of a tenant that has lost access ends with reason NO ACCESS (R18). -/
def State.endLostAccess (s : State) (p : PrinterNo) (sh : Sharing) : State :=
  match s.sessions.rd p with
  | some x => if sh.gives x.account.tenant then s else s.endSession p .noAccess
  | none => s

/-- SET SHARING's work (R18): printer, sharing. -/
def workSetSharing (body : List Byte) (s : State) : State × Option Reply :=
  if body.length ≠ 4 then refuse .malformed s
  else match numberBelow 64 (u8 body 0), sharingAt body 1 with
    | some p, some sh =>
      if !s.sharingDefined sh then refuse .noSuch s
      else match s.enrolled p with
        | none => refuse .wrongState s
        | some e => accept [] ((s.setEnrolled p { e with sharing := sh }).endLostAccess p sh)
    | _, _ => refuse .malformed s

def execSetSharing (port : PortNo) (tag : Byte) (body : List Byte) (s : State) :
    Host.Outcome State Fault Refusal :=
  .next (s.takeRequest .setSharing port tag body (workSetSharing body)).serveChannels

/-! ### QUERY PRINTER (R20) -/

/-- The three condition codes, USER, SUPPLY, SERVICE. -/
def codesBytes (x : PerClass Byte) : List Byte := [x.user, x.supply, x.service]

/-- The active job's handle, tenant and state, each behind its selector (R20; log 17). -/
def State.activeJobBytes (s : State) (e : Enrolled) : List Byte :=
  let j := e.activeJob.bind s.job
  optField 2 handleBytes e.activeJob ++ optField 1 (fun j => tenantByte j.owner.tenant) j
    ++ optField 1 (fun j => be1 j.state.code) j

/-- A slot in a QUERY PRINTER answer (R20). -/
def slotSummary (x : Slot) : List Byte :=
  be1 x.kind.code ++ be3 x.capacity ++ be1 x.level ++ be2 x.daysToEmpty ++ flagByte x.present

/-- The fields that the facilities port reads of an enrolled printer (R20). -/
def State.enrolledFields (s : State) (p : PrinterNo) (e : Enrolled) : List Byte :=
  let d := e.descriptor
  sharingBytes e.sharing ++ capabilityByte d ++ be1 d.floorPercent ++ be3 d.answerTime ++ be3 d.window
    ++ be3 d.startLimit ++ be3 d.suspendLimit ++ be3 d.grace.user ++ be3 d.grace.supply ++ be3 d.grace.service
    ++ codesBytes e.codes ++ optField 3 be3 e.grace.user ++ optField 3 be3 e.grace.supply
    ++ optField 3 be3 e.grace.service ++ s.activeJobBytes e
    ++ be1 (sessionState (s.sessions.rd p)).code ++ runField slotSummary e.slots

/-- The answer to the facilities port (R20). -/
def State.printerForFacilities (s : State) (p : PrinterNo) : List Byte :=
  be1 p.val ++ be1 (s.printers.rd p).serviceCode ++
    match s.printers.rd p with
    | .absent => []
    | .enrolling sh _ => sharingBytes sh
    | .enrolled e => s.enrolledFields p e

/-- The answer to a tenant port (R20). -/
def printerForTenant (p : PrinterNo) (e : Enrolled) : List Byte :=
  be1 p.val ++ be1 (Printer.serviceCode (.enrolled e)) ++ capabilityByte e.descriptor ++ codesBytes e.codes
    ++ flagByte e.activeJob.isSome

/-- QUERY PRINTER's work (R20). -/
def workQueryPrinter (port : PortNo) (p : PrinterNo) (s : State) : State × Option Reply :=
  match (s.ports.rd port).role with
  | .facilities => accept (s.printerForFacilities p) s
  | .tenant t =>
    match s.enrolled p with
    | some e => if e.sharing.gives t then accept (printerForTenant p e) s else refuse .noSuch s
    | none => refuse .noSuch s
  | _ => refuse .notPermitted s

def execQueryPrinter (port : PortNo) (tag : Byte) (body : List Byte) (s : State) :
    Host.Outcome State Fault Refusal :=
  .next (s.takeRequest .queryPrinter port tag body fun s => onPrinter body s (workQueryPrinter port))

/-! ### RESET CHANNEL (R37) -/

/-- A position with its marks and end reason cleared (R37 step 2). -/
def Position.unmarked (x : Position) : Position :=
  { Position.clear with resync := x.resync, silence := x.silence }

/-- Steps 3 to 6 of RESET CHANNEL at one printer of the channel (R37). -/
def State.resetPrinter (s : State) (p : PrinterNo) : State :=
  let s := match s.activeJob p with
    | some h => match s.grantedAt h p with
      | some _ => (s.rehold h p).getD s
      | none => s
    | none => s
  let s := s.endSession p .channelReset
  match s.printers.rd p with
  | .absent => s
  | .enrolling _ requester => s.failEnrolment p requester .channelReset
  | .enrolled _ => s.setPosition p { s.positions.rd p with resync := true, probe := true }

/-- RESET CHANNEL done on a channel (R37). -/
def State.resetChannel (s : State) (c : ChannelNo) : State :=
  let s := s.setChannel c .idle
  let s := { s with
    positions := Table.tab fun p => if channelOf p = c then (s.positions.rd p).unmarked else s.positions.rd p }
  (List.finRange 8).foldl (fun s k => s.resetPrinter (printerAt c k)) s

/-- RESET CHANNEL's work (R37). -/
def workResetChannel (body : List Byte) (s : State) : State × Option Reply :=
  if body.length ≠ 1 then refuse .malformed s
  else match numberBelow 8 (u8 body 0) with
    | some c => accept [] (s.resetChannel c)
    | none => refuse .malformed s

def execResetChannel (port : PortNo) (tag : Byte) (body : List Byte) (s : State) :
    Host.Outcome State Fault Refusal :=
  .next (s.takeRequest .resetChannel port tag body (workResetChannel body)).serveChannels

end Sys2Proof.Machine
end

