-- ==== Sys2Proof/Machine/Tenants.lean ====
section
/-! DEFINITION. The tenant requests of the facilities station and QUERY TENANT (chapter 3). -/

namespace Sys2Proof.Machine

/-- An allowance field: a value or ABSENT (R42, R197). -/
def allowanceOf : Choice Nat → Option (Option Nat)
  | .value v => some (some v)
  | .absent => some none
  | _ => none

/-- Four tariff weights, none when one is 0 (R42). -/
def tariffAt (b : List Byte) (i : Nat) : Option Tariff :=
  let w : Tariff := ⟨u8 b i, u8 b (i + 1), u8 b (i + 2), u8 b (i + 3)⟩
  if w.mono = 0 ∨ w.colour = 0 ∨ w.largeMono = 0 ∨ w.largeColour = 0 then none else some w

/-- A job record limit 1-1,024 (R42). -/
def jobLimitOf (x : Nat) : Option Nat := if 1 ≤ x ∧ x ≤ 1024 then some x else none
/-- An account limit 1-2,048 (R42). -/
def accountLimitOf (x : Nat) : Option Nat := if 1 ≤ x ∧ x ≤ 2048 then some x else none
/-- Hold hours clamped to 1-168 (R42). -/
def holdHoursOf (x : Nat) : Nat := clamp 1 168 x

/-- The tenant a DEFINE TENANT body describes, with its number; none when it is malformed (R42). -/
def definedBy (b : List Byte) : Option (TenantNo × Tenant) :=
  if b.length ≠ 18 then none
  else do
    let t ← tenantOf (u8 b 0)
    let pool ← (← choiceAt b 1 [1] (u24 b 2)) |> allowanceOf
    let default ← (← choiceAt b 5 [1] (u24 b 6)) |> allowanceOf
    let tariff ← tariffAt b 9
    let jobs ← jobLimitOf (u16 b 14)
    let accounts ← accountLimitOf (u16 b 16)
    some (t, ⟨pool, 0, 0, false, default, tariff, holdHoursOf (u8 b 13), jobs, accounts, 0, 0⟩)

/-- DEFINE TENANT's work (R42). -/
def workDefineTenant (body : List Byte) (s : State) : State × Option Reply :=
  match definedBy body with
  | none => refuse .malformed s
  | some (t, x) =>
    if s.defined t then refuse .wrongState s
    else accept [] ((s.setTenant t (some x)).exhaustPool t)

def execDefineTenant (port : PortNo) (tag : Byte) (body : List Byte) (s : State) :
    Host.Outcome State Fault Refusal :=
  .next (s.takeRequest .defineTenant port tag body (workDefineTenant body))

/-- A field of an amendment: no change, or a new value that its reader accepts. -/
def amendedOf {α β : Type} (c : Choice α) (read : Choice α → Option β) : Option (Option β) :=
  match c with
  | .noChange => some none
  | c => (read c).map some

/-- A value alone. -/
def valueOf {α : Type} : Choice α → Option α
  | .value a => some a
  | _ => none

/-- The changes of an AMEND TENANT body, each a new value or none (R43; log 20). -/
structure TenantChanges where
  pool : Option (Option Nat)
  default : Option (Option Nat)
  tariff : Option Tariff
  holdHours : Option Nat
  jobLimit : Option Nat
  accountLimit : Option Nat
deriving DecidableEq, Repr

/-- An AMEND TENANT body read; none when it is malformed (R43). -/
def tenantChangesAt (b : List Byte) : Option (TenantNo × TenantChanges) :=
  if b.length ≠ 22 then none
  else do
    let t ← tenantOf (u8 b 0)
    let pool ← amendedOf (← choiceAt b 1 [1, 3] (u24 b 2)) allowanceOf
    let default ← amendedOf (← choiceAt b 5 [1, 3] (u24 b 6)) allowanceOf
    let tariff ← amendedOf (← choiceAt b 9 [3] (tariffAt b 10)) (fun c => (valueOf c).join)
    let hold ← amendedOf (← choiceAt b 14 [3] (u8 b 15)) valueOf
    let jobs ← amendedOf (← choiceAt b 16 [3] (jobLimitOf (u16 b 17))) (fun c => (valueOf c).join)
    let accounts ← amendedOf (← choiceAt b 19 [3] (accountLimitOf (u16 b 20))) (fun c => (valueOf c).join)
    some (t, ⟨pool, default, tariff, hold.map holdHoursOf, jobs, accounts⟩)

/-- A tenant record amended; a pool made unlimited has its EXHAUSTED flag cleared (R41, R43). -/
def Tenant.amend (x : Tenant) (c : TenantChanges) : Tenant :=
  { x with
    poolAllowance := c.pool.getD x.poolAllowance
    poolExhausted := if c.pool = some none then false else x.poolExhausted
    defaultAllowance := c.default.getD x.defaultAllowance
    tariff := c.tariff.getD x.tariff
    holdHours := c.holdHours.getD x.holdHours
    jobLimit := c.jobLimit.getD x.jobLimit
    accountLimit := c.accountLimit.getD x.accountLimit }

/-- Whether a new limit lies below the count it limits (R43). -/
def TenantChanges.belowCount (c : TenantChanges) (x : Tenant) : Bool :=
  c.jobLimit.any (fun l => decide (l < x.liveJobs)) || c.accountLimit.any (fun l => decide (l < x.accountCount))

/-- AMEND TENANT's work (R43). -/
def workAmendTenant (body : List Byte) (s : State) : State × Option Reply :=
  match tenantChangesAt body with
  | none => refuse .malformed s
  | some (t, c) =>
    match s.tenants.rd t with
    | none => refuse .noSuch s
    | some x =>
      if c.belowCount x then refuse .limit s
      else
        let s1 := s.setTenant t (some (x.amend c))
        accept [] (if c.pool.isSome then s1.exhaustPool t else s1)

def execAmendTenant (port : PortNo) (tag : Byte) (body : List Byte) (s : State) :
    Host.Outcome State Fault Refusal :=
  .next (s.takeRequest .amendTenant port tag body (workAmendTenant body))

/-- A request whose body is one tenant number, 1-16. -/
def onTenantNumber (body : List Byte) (s : State) (work : TenantNo → State → State × Option Reply) :
    State × Option Reply :=
  if body.length ≠ 1 then refuse .malformed s
  else match tenantOf (u8 body 0) with
    | some t => work t s
    | none => refuse .malformed s

/-- RENEW POOL's work (R57): the flag of a pool of allowance 0 is set again at once, without an event (R41). -/
def workRenewPool (t : TenantNo) (s : State) : State × Option Reply :=
  match s.tenants.rd t with
  | none => refuse .noSuch s
  | some x =>
    accept [] ((s.setTenant t (some { x with
      poolCharged := 0, poolExhausted := reaches x.poolAllowance 0 })).raise .poolRenewed (toTenant t))

def execRenewPool (port : PortNo) (tag : Byte) (body : List Byte) (s : State) :
    Host.Outcome State Fault Refusal :=
  .next (s.takeRequest .renewPool port tag body fun s => onTenantNumber body s workRenewPool)

/-- The fields of a DEFINED tenant in a QUERY TENANT answer (R44). -/
def tenantBody (x : Tenant) : List Byte :=
  optField 3 be3 x.poolAllowance ++ be3 x.poolCharged ++ be3 x.poolReserved ++ flagByte x.poolExhausted
    ++ be3 (overrun x.poolAllowance x.poolCharged) ++ optField 3 be3 x.defaultAllowance
    ++ be1 x.tariff.mono ++ be1 x.tariff.colour ++ be1 x.tariff.largeMono ++ be1 x.tariff.largeColour
    ++ be1 x.holdHours ++ be2 x.jobLimit ++ be2 x.liveJobs ++ be2 x.accountLimit ++ be2 x.accountCount

/-- QUERY TENANT's work (R44); an ABSENT tenant is answered with its state alone. -/
def workQueryTenant (port : PortNo) (t : TenantNo) (s : State) : State × Option Reply :=
  let answer := match s.tenants.rd t with
    | some x => accept (tenantBody x) s
    | none => accept (be1 0) s
  match (s.ports.rd port).role with
  | .facilities => answer
  | .tenant u => if u = t then answer else refuse .noSuch s
  | _ => refuse .notPermitted s

def execQueryTenant (port : PortNo) (tag : Byte) (body : List Byte) (s : State) :
    Host.Outcome State Fault Refusal :=
  .next (s.takeRequest .queryTenant port tag body fun s => onTenantNumber body s (workQueryTenant port))

/-! ### REMOVE TENANT (R7, R45) -/

/-- A printer record with a removed tenant taken out of its sharing (R7). -/
def Printer.withoutTenant (t : TenantNo) : Printer → Printer
  | .absent => .absent
  | .enrolling sh r => .enrolling (sh.without t) r
  | .enrolled e =>
    .enrolled { e with
      sharing := e.sharing.without t
      service := if e.sharing = .dedicated t ∧ e.service = .inService then
        (if e.activeJob.isSome then .draining else .disabled) else e.service }

/-- Whether a printer becomes DISABLED when a tenant is removed (R7). -/
def Printer.disabledBy (t : TenantNo) : Printer → Bool
  | .enrolled e => decide (e.sharing = .dedicated t) && decide (e.service = .inService) && e.activeJob.isNone
  | _ => false

/-- The tenant taken out of every printer's sharing; PRINTER DISABLED where one becomes DISABLED (R7). -/
def State.unshare (s : State) (t : TenantNo) : State :=
  let s1 := { s with printers := s.printers.map (Printer.withoutTenant t) }
  if s.printers.cells.any (Printer.disabledBy t) then s1.raise .printerDisabled toFacilities else s1

/-- Every session of the tenant's accounts ends (R45). -/
def State.endTenantSessions (s : State) (t : TenantNo) : State :=
  (List.finRange 64).foldl
    (fun s p => if (s.sessions.rd p).any (fun x => decide (x.account.tenant = t)) then s.endSession p .tenantRemoved
      else s) s

/-- Whether a job of the tenant is active (R45). -/
def State.tenantActive (s : State) (t : TenantNo) : Bool :=
  s.jobs.cells.any fun r => r.job.any fun j => decide (j.owner.tenant = t) && j.state.active.isSome

/-- REMOVE TENANT's work (R45). -/
def workRemoveTenant (t : TenantNo) (s : State) : State × Option Reply :=
  if !s.defined t then refuse .noSuch s
  else if s.tenantActive t then refuse .wrongState s
  else
    let s := (s.endTenantSessions t).freeWhere fun j => decide (j.owner.tenant = t)
    let s := { s with
      accounts := s.accounts.filter fun a => a.key.tenant ≠ t
      completions := s.completions.wr t [] }
    accept [] (((s.unbindTenant t).unshare t).setTenant t none)

def execRemoveTenant (port : PortNo) (tag : Byte) (body : List Byte) (s : State) :
    Host.Outcome State Fault Refusal :=
  .next (s.takeRequest .removeTenant port tag body fun s => onTenantNumber body s workRemoveTenant).serveChannels

end Sys2Proof.Machine
end

