-- ==== Sys2Proof/Machine/Accounts.lean ====
section
/-! DEFINITION. The account requests of a tenant station (chapter 3). Their refusals are examined in the order
of Table 3.4. -/

namespace Sys2Proof.Machine

/-! ### Fields (R48, R50) -/

/-- The account that a body names within the asking tenant; none for number 0 (R50). -/
def accountKeyAt (t : TenantNo) (b : List Byte) (i : Nat) : Option AccountKey :=
  if u16 b i = 0 then none else some ⟨t, u16 b i⟩

/-- A credential field: 0 means no credential (R50). -/
def credentialOf (w : Word32) : Option Word32 := if w = 0 then none else some w

/-- The allowance that a field resolves to: a value, ABSENT, or the tenant's default (R48). -/
def resolveAllowance (x : Tenant) : Choice Nat → Option Nat
  | .value v => some v
  | .default => x.defaultAllowance
  | _ => none

/-- Whether a digest stands in the credential map for another account (R49, R50). -/
def State.digestTaken (s : State) (key : AccountKey) (credential : Option Word32) : Bool :=
  match credential with
  | none => false
  | some d => s.accounts.any fun a => decide (a.credential = some d) && decide (a.key ≠ key)

/-! ### CREATE ACCOUNT (R51) -/

/-- The record of a new account (R51). -/
def Account.fresh (key : AccountKey) (credential : Option Word32) (allowance : Option Nat) : Account :=
  ⟨key, credential, allowance, 0, 0, false, false, 0, none⟩

/-- A new account taken into the table (R51); an allowance of 0 exhausts it at once (R41). -/
def State.addAccount (s : State) (a : Account) : State :=
  (({ s with accounts := s.accounts ++ [a] }).modTenant a.key.tenant
    fun t => { t with accountCount := t.accountCount + 1 }).exhaustAccount a.key

/-- CREATE ACCOUNT's work (R50, R51). -/
def workCreateAccount (body : List Byte) (t : TenantNo) (s : State) : State × Option Reply :=
  if body.length ≠ 10 then refuse .malformed s
  else match accountKeyAt t body 0, choiceAt body 6 [1, 2] (u24 body 7) with
    | some key, some choice =>
      match s.tenants.rd t with
      | none => refuse .noSuch s
      | some x =>
        let credential := credentialOf (u32 body 2)
        let allowance := resolveAllowance x choice
        if (s.account key).isSome || s.digestTaken key credential then refuse .duplicate s
        else if x.accountLimit ≤ x.accountCount then refuse .limit s
        else if Config.accountRecords ≤ s.accounts.length then refuse .poolFull s
        else accept (be2 key.number ++ optField 3 be3 allowance) (s.addAccount (.fresh key credential allowance))
    | _, _ => refuse .malformed s

def execCreateAccount (port : PortNo) (tag : Byte) (body : List Byte) (s : State) :
    Host.Outcome State Fault Refusal :=
  .next (s.takeRequest .createAccount port tag body fun s => onTenant s port (workCreateAccount body))

/-! ### QUERY ACCOUNT (R55) -/

/-- The fields of an account in an answer (R55). -/
def accountBody (a : Account) : List Byte :=
  be2 a.key.number ++ optField 4 be4 a.credential ++ optField 3 be3 a.allowance ++ be3 a.charged
    ++ be3 a.reserved ++ be3 (overrun a.allowance a.charged) ++ flagByte a.unlimited ++ flagByte a.barred
    ++ flagByte a.exhausted ++ be2 a.heldJobs ++ optField 1 (fun p : PrinterNo => be1 p.val) a.session

/-- The account of a tenant with the lowest number at or above one (R55). -/
def State.nextAccount (s : State) (t : TenantNo) (number : Nat) : Option Account :=
  (s.accounts.filter fun a => decide (a.key.tenant = t) && decide (number ≤ a.key.number)).foldl
    (fun best a => match best with
      | some b => if a.key.number < b.key.number then some a else some b
      | none => some a) none

/-- QUERY ACCOUNT's work (R55). -/
def workQueryAccount (body : List Byte) (t : TenantNo) (s : State) : State × Option Reply :=
  if body.length ≠ 3 then refuse .malformed s
  else match accountKeyAt t body 0, flagAt body 2 with
    | some key, some next =>
      match (if next then s.nextAccount t key.number else s.account key) with
      | some a => accept (accountBody a) s
      | none => refuse .noSuch s
    | _, _ => refuse .malformed s

def execQueryAccount (port : PortNo) (tag : Byte) (body : List Byte) (s : State) :
    Host.Outcome State Fault Refusal :=
  .next (s.takeRequest .queryAccount port tag body fun s => onTenant s port (workQueryAccount body))

/-! ### AMEND ACCOUNT (R52, R53) -/

/-- The changes of an AMEND ACCOUNT body, each a new value or none (R52). -/
structure AccountChanges where
  allowance : Option (Choice Nat)
  credential : Option (Option Word32)
  barred : Option Bool
deriving DecidableEq, Repr

/-- An AMEND ACCOUNT body read; none when it is malformed (R50, R52). -/
def accountChangesAt (t : TenantNo) (b : List Byte) : Option (AccountKey × AccountChanges) :=
  if b.length ≠ 13 then none
  else do
    let key ← accountKeyAt t b 0
    let allowance ← amendedOf (← choiceAt b 2 [1, 2, 3] (u24 b 3)) some
    let credential ← amendedOf (← choiceAt b 6 [3] (u32 b 7)) valueOf
    let barred ← amendedOf (← choiceAt b 11 [3] (flagAt b 12)) (fun c => (valueOf c).join)
    some (key, ⟨allowance, credential.map credentialOf, barred⟩)

/-- An account record amended; an allowance made absent clears EXHAUSTED (R52). -/
def Account.amend (a : Account) (x : Tenant) (c : AccountChanges) : Account :=
  let allowance := c.allowance.map (resolveAllowance x)
  { a with
    allowance := allowance.getD a.allowance
    exhausted := if allowance = some none then false else a.exhausted
    credential := c.credential.getD a.credential
    barred := c.barred.getD a.barred }

/-- The session of an account ends for a reason, if it has one (R53, R54). -/
def State.endAccountSession (s : State) (a : Account) (reason : EndReason) : State :=
  match a.session with
  | some p => s.endSession p reason
  | none => s

/-- An amendment done on an account (R52, R53); `a` is the account as it stood. -/
def State.amendAccount (s : State) (a : Account) (x : Tenant) (c : AccountChanges) : State :=
  let s := s.modAccount a.key fun a => a.amend x c
  let s := if c.allowance.isSome then s.exhaustAccount a.key else s
  if c.barred = some true ∧ !a.barred then s.endAccountSession a .accountBarred else s

/-- AMEND ACCOUNT's work (R50, R52). -/
def workAmendAccount (body : List Byte) (t : TenantNo) (s : State) : State × Option Reply :=
  match accountChangesAt t body with
  | none => refuse .malformed s
  | some (key, c) =>
    match s.account key, s.tenants.rd t with
    | some a, some x =>
      if s.digestTaken key (c.credential.getD none) then refuse .duplicate s
      else
        let s := s.amendAccount a x c
        accept (((s.account key).map accountBody).getD []) s
    | _, _ => refuse .noSuch s

def execAmendAccount (port : PortNo) (tag : Byte) (body : List Byte) (s : State) :
    Host.Outcome State Fault Refusal :=
  .next (s.takeRequest .amendAccount port tag body fun s => onTenant s port (workAmendAccount body)).serveChannels

/-! ### REMOVE ACCOUNT (R54) -/

/-- Whether an account has a job in GRANTED, PRINTING or SUSPENDED (R50). -/
def State.accountActive (s : State) (key : AccountKey) : Bool :=
  s.jobs.cells.any fun r => r.job.any fun j => decide (j.owner = key) && j.state.active.isSome

/-- An account removed: its session ended, its HELD jobs freed, its record freed (R54; log 12). -/
def State.removeAccount (s : State) (a : Account) : State :=
  let s := (s.endAccountSession a .accountRemoved).freeWhere
    fun j => decide (j.owner = a.key) && decide (j.state = .held)
  ({ s with accounts := s.accounts.filter fun b => b.key ≠ a.key }).modTenant a.key.tenant
    fun t => { t with accountCount := t.accountCount - 1 }

/-- REMOVE ACCOUNT's work (R50, R54). -/
def workRemoveAccount (body : List Byte) (t : TenantNo) (s : State) : State × Option Reply :=
  if body.length ≠ 2 then refuse .malformed s
  else match accountKeyAt t body 0 with
    | none => refuse .malformed s
    | some key =>
      match s.account key with
      | none => refuse .noSuch s
      | some a => if s.accountActive key then refuse .wrongState s else accept [] (s.removeAccount a)

def execRemoveAccount (port : PortNo) (tag : Byte) (body : List Byte) (s : State) :
    Host.Outcome State Fault Refusal :=
  .next (s.takeRequest .removeAccount port tag body fun s => onTenant s port (workRemoveAccount body)).serveChannels

/-! ### RENEW PERIOD (R56) -/

/-- An account renewed: the flag of an allowance of 0 is set again at once, without an event (R41, R56). -/
def Account.renew (a : Account) : Account :=
  { a with charged := 0, exhausted := reaches a.allowance 0 }

/-- The accounts of a predicate renewed. -/
def State.renewWhere (s : State) (which : Account → Bool) : State :=
  { s with accounts := s.accounts.map fun a => if which a then a.renew else a }

/-- RENEW PERIOD's work (R56): the answer counts the accounts renewed. -/
def workRenewPeriod (body : List Byte) (t : TenantNo) (s : State) : State × Option Reply :=
  if body.length ≠ 3 then refuse .malformed s
  else match choiceAt body 0 [4] (accountKeyAt t body 1) with
    | some .all =>
      let which := fun a : Account => decide (a.key.tenant = t)
      accept (be2 (s.accounts.filter which).length) (s.renewWhere which)
    | some (.value (some key)) =>
      if (s.account key).isSome then accept (be2 1) (s.renewWhere fun a => decide (a.key = key))
      else refuse .noSuch s
    | _ => refuse .malformed s

def execRenewPeriod (port : PortNo) (tag : Byte) (body : List Byte) (s : State) :
    Host.Outcome State Fault Refusal :=
  .next (s.takeRequest .renewPeriod port tag body fun s => onTenant s port (workRenewPeriod body))

end Sys2Proof.Machine
end

