-- ==== Sys2Proof/Machine/Jobs.lean ====
section
/-! DEFINITION. The job requests (chapter 4): submission, withdrawal, reading a job, collecting completions,
and the expiry of hold time. -/

namespace Sys2Proof.Machine

/-! ### SUBMIT JOB (R69, R70) -/

/-- The live record of a tenant that carries a job tag (R69, R75). -/
def State.recordOfTag (s : State) (t : TenantNo) (tag : Nat) : Option RecordNo :=
  (List.finRange 1024).find? fun n =>
    (s.jobAt n).any fun j => decide (j.owner.tenant = t) && decide (j.tag = tag)

/-- The preferred printer of a SUBMIT JOB body: none when it is malformed, otherwise what is given, or its
absence (R69, section 12.4). -/
def State.preferredAt (s : State) (b : List Byte) : Option (Option PrinterNo) :=
  if (u8 b 12).testBit 1 then
    match numberBelow 64 (u8 b 13) with
    | some p => if (s.enrolled p).isSome then some (some p) else none
    | none => none
  else some none

/-- The record of a submitted job (R70). -/
def submittedJob (b : List Byte) (owner : AccountKey) (preferred : Option PrinterNo) (holdMinutes : Nat) : Job where
  owner := owner
  tag := u16 b 2
  spool := u32 b 4
  declaredMono := u16 b 8
  declaredColour := u16 b 10
  large := (u8 b 12).testBit 0
  preferred := preferred
  state := .held
  holdMinutes := holdMinutes
  doneMono := 0
  doneColour := 0
  reserved := 0
  charged := 0

/-- A job taken into the record at the head of the free list (R70). -/
def State.submit (s : State) (n : RecordNo) (rest : List RecordNo) (j : Job) : State :=
  let s := { s with freeList := rest, submission := s.submission ++ [n] }
  ((s.setJob n j).countHeld j.owner).modTenant j.owner.tenant
    fun t => { t with liveJobs := t.liveJobs + 1 }

/-- SUBMIT JOB's work (R69, R70). -/
def workSubmitJob (body : List Byte) (t : TenantNo) (s : State) : State × Option Reply :=
  if body.length ≠ 14 ∨ (u16 body 8 = 0 ∧ u16 body 10 = 0) then refuse .malformed s
  else match accountKeyAt t body 0, s.preferredAt body with
    | some key, some preferred =>
      match s.account key, s.tenants.rd t with
      | some _, some x =>
        if (s.recordOfTag t (u16 body 2)).isSome then refuse .duplicate s
        else if x.jobLimit ≤ x.liveJobs then refuse .limit s
        else match s.freeList with
          | [] => refuse .poolFull s
          | n :: rest =>
            accept (handleBytes (s.handleOf n) ++ be2 (u16 body 2))
              (s.submit n rest (submittedJob body key preferred (x.holdHours * 60)))
      | _, _ => refuse .noSuch s
    | _, _ => refuse .malformed s

def execSubmitJob (port : PortNo) (tag : Byte) (body : List Byte) (s : State) :
    Host.Outcome State Fault Refusal :=
  .next (s.takeRequest .submitJob port tag body fun s => onTenant s port (workSubmitJob body))

/-! ### WITHDRAW (R73) -/

/-- The job of a current handle that belongs to a tenant (R61). -/
def State.tenantJob (s : State) (h : Handle) (t : TenantNo) : Option Job :=
  match s.job h with
  | some j => if j.owner.tenant = t then some j else none
  | none => none

/-- WITHDRAW's work (R73). -/
def workWithdraw (body : List Byte) (t : TenantNo) (s : State) : State × Option Reply :=
  if body.length ≠ 2 then refuse .malformed s
  else
    let h := handleAt body 0
    match s.tenantJob h t with
    | none => refuse .noSuch s
    | some j => if j.state = .held then accept [] (s.freeRecord h.record) else refuse .wrongState s

def execWithdraw (port : PortNo) (tag : Byte) (body : List Byte) (s : State) :
    Host.Outcome State Fault Refusal :=
  .next (s.takeRequest .withdraw port tag body fun s => onTenant s port (workWithdraw body)).serveChannels

/-! ### QUERY JOB (R75) -/

/-- The printer at which a handle stands in a release list. -/
def State.releasePrinter (s : State) (h : Handle) : Option PrinterNo :=
  (List.finRange 64).find? fun p => (s.sessions.rd p).any fun x => x.release.contains h

/-- Whether a handle stands in an eligible list. -/
def State.inEligible (s : State) (h : Handle) : Bool :=
  s.sessions.cells.any fun x => x.any fun x => x.eligible.cells.contains (some h)

/-- The fields of Table 4.1 that a state adds, before the done counts: hold minutes, printer, COLOUR-AS-MONO. -/
def jobHoldBytes (j : Job) : List Byte :=
  match j.state with
  | .complete _ _ => []
  | .held => be2 j.holdMinutes
  | .granted p cam _ | .printing p cam | .suspended p cam _ => be2 j.holdMinutes ++ be1 p.val ++ flagByte cam

/-- The fields of Table 4.1 that a state adds, after the charges: timers, outcome, finished-at. -/
def jobStateBytes : JobState → List Byte
  | .held | .printing _ _ => []
  | .granted _ _ timer => optField 3 be3 timer
  | .suspended _ _ timer => be3 timer
  | .complete outcome at_ => be1 outcome.code ++ clockBytes at_

/-- Whether a handle stands in a release list, as a flag, and the printer of that list where it does (R75, R197;
log 34). -/
def releaseBytes : Option PrinterNo → List Byte
  | some p => flagByte true ++ be1 p.val
  | none => flagByte false

/-- The fields of a job in the QUERY JOB answer, in the order of Table 4.1, then whether it stands in the lists of
sessions (R75; log 17, log 34). -/
def State.jobBody (s : State) (h : Handle) (j : Job) : List Byte :=
  handleBytes h ++ tenantByte j.owner.tenant ++ be2 j.owner.number ++ be2 j.tag ++ be4 j.spool
    ++ be2 j.declaredMono ++ be2 j.declaredColour ++ flagByte j.large
    ++ optField 1 (fun p : PrinterNo => be1 p.val) j.preferred ++ be1 j.state.code ++ jobHoldBytes j
    ++ be2 j.doneMono ++ be2 j.doneColour ++ be3 j.resumeFrom ++ be3 j.reserved ++ be3 j.charged
    ++ jobStateBytes j.state
    ++ releaseBytes (s.releasePrinter h) ++ flagByte (s.inEligible h)

/-- The answer about the job of a handle, or NO SUCH. -/
def State.answerJob (s : State) (h : Handle) (j : Option Job) : State × Option Reply :=
  match j with
  | some j => accept (s.jobBody h j) s
  | none => refuse .noSuch s

/-- The answer about a tenant's live record with a tag, or NO SUCH. -/
def State.answerJobOfTag (s : State) (t : TenantNo) (tag : Nat) : State × Option Reply :=
  match s.recordOfTag t tag with
  | some n => s.answerJob (s.handleOf n) (s.jobAt n)
  | none => refuse .noSuch s

/-- QUERY JOB's work (R75): form 00h by handle, form 01h by tag, with a tenant number from the facilities port
alone (R197). -/
def workQueryJob (port : PortNo) (body : List Byte) (s : State) : State × Option Reply :=
  let h := handleAt body 1
  match (s.ports.rd port).role, u8 body 0 with
  | .facilities, 0 => if body.length = 3 then s.answerJob h (s.job h) else refuse .malformed s
  | .tenant t, 0 => if body.length = 3 then s.answerJob h (s.tenantJob h t) else refuse .malformed s
  | .facilities, 1 =>
    if body.length ≠ 4 then refuse .malformed s
    else match tenantOf (u8 body 3) with
      | some t => s.answerJobOfTag t (u16 body 1)
      | none => refuse .malformed s
  | .tenant t, 1 => if body.length = 3 then s.answerJobOfTag t (u16 body 1) else refuse .malformed s
  | _, _ => refuse .malformed s

def execQueryJob (port : PortNo) (tag : Byte) (body : List Byte) (s : State) :
    Host.Outcome State Fault Refusal :=
  .next (s.takeRequest .queryJob port tag body (workQueryJob port body))

/-! ### TAKE COMPLETIONS (R77) -/

/-- The records that TAKE COMPLETIONS returns: at most 6, oldest first. -/
def State.collected (s : State) (t : TenantNo) : List RecordNo := (s.completions.rd t).take 6

/-- A completion record (Table 12.6). -/
def State.completionRecord (s : State) (n : RecordNo) : List Byte :=
  match s.jobAt n with
  | some j =>
    match j.state with
    | .complete outcome at_ =>
      handleBytes (s.handleOf n) ++ be2 j.tag ++ be2 j.owner.number ++ be1 outcome.code ++ clockBytes at_
        ++ be2 j.doneMono ++ be2 j.doneColour ++ be3 j.charged
    | _ => []
  | none => []

/-- TAKE COMPLETIONS's work (R77). -/
def workTakeCompletions (body : List Byte) (t : TenantNo) (s : State) : State × Option Reply :=
  if body.length ≠ 0 then refuse .malformed s
  else
    let taken := s.collected t
    accept (be1 taken.length ++ be2 ((s.completions.rd t).length - taken.length)
      ++ (taken.map s.completionRecord).flatten) (taken.foldl State.freeRecord s)

def execTakeCompletions (port : PortNo) (tag : Byte) (body : List Byte) (s : State) :
    Host.Outcome State Fault Refusal :=
  .next (s.takeRequest .takeCompletions port tag body fun s =>
    onTenant s port (workTakeCompletions body)).serveChannels

/-! ### Hold time (R71, R72) -/

/-- A job's hold minutes counted down at a minute mark; a job at 0 stays at 0 until its expiry is taken (R71). -/
def State.countDownJob (s : State) (n : RecordNo) (r : JobRecord) : JobRecord :=
  match r.job with
  | some j =>
    if j.state = .held ∧ n ∈ s.submission ∧ s.inRelease ⟨n, r.generation⟩ = false then
      { r with job := some { j with holdMinutes := j.holdMinutes - 1 } }
    else r
  | none => r

/-- The hold count-down of every HELD job in no release list (R71). -/
def State.countDown (s : State) : State :=
  { s with jobs := Table.tab fun n => s.countDownJob n (s.jobs.rd n) }

/-- Whether a record's job is due to expire: HELD with no hold minutes left, in no release list (R71, R72). -/
def State.dueToExpire (s : State) (n : RecordNo) : Bool :=
  (s.jobAt n).any fun j => j.expiryDue && !s.inRelease (s.handleOf n)

/-- The expiry of a HELD job, stamped with the last minute mark (R72; log 6). -/
def State.expire (s : State) (n : RecordNo) (j : Job) : State :=
  let h := s.handleOf n
  let s := (s.setJob n { j with state := .complete .expired s.lastMinuteMark }).uncountHeld j.owner
  (((s.complete n j.owner.tenant).forget h).raise .jobExpired (toTenant j.owner.tenant)).raise .jobFinished
    (toTenant j.owner.tenant)

/-- The first due job in submission order expires; with none due nothing happens (R72; log 3, log 6). -/
def State.expireNext (s : State) : State :=
  match s.submission.find? s.dueToExpire with
  | some n => match s.jobAt n with
    | some j => s.expire n j
    | none => s
  | none => s

def execJobExpire (s : State) : Host.Outcome State Fault Refusal := .next s.expireNext.serveChannels

end Sys2Proof.Machine
end

