-- ==== Sys2Proof/Machine/Supplies.lean ====
section
/-! DEFINITION. QUERY SLOT (chapter 7) and the requests of the supplies station on the reorder list
(chapter 8). -/

namespace Sys2Proof.Machine

/-! ### QUERY SLOT (R134) -/

/-- The fields of Table 7.1, in its order (R134; log 21). -/
def slotBody (x : Slot) : List Byte :=
  be1 x.kind.code ++ be3 x.overhead ++ be3 x.capacity ++ be3 x.remaining ++ be3 x.today ++ be3 x.rate
    ++ flagByte x.seeded ++ be2 x.daysToEmpty ++ be1 x.level ++ be4 x.identity ++ flagByte x.present

/-- The open reorder of a slot in a QUERY SLOT answer: number, urgency, state, expected day (R134, R144;
log 16, log 17). -/
def openReorderBytes (r : Option Reorder) : List Byte :=
  optField 2 (fun r : Reorder => be2 r.number) r ++ optField 1 (fun r : Reorder => be1 r.urgency.code) r
    ++ optField 1 (fun r : Reorder => be1 r.state.code) r ++ optField 2 be2 (r.bind (·.expectedDay))

/-- QUERY SLOT's work (R134). -/
def workQuerySlot (body : List Byte) (s : State) : State × Option Reply :=
  if body.length ≠ 2 then refuse .malformed s
  else match numberBelow 64 (u8 body 0), numberBelow 5 (u8 body 1) with
    | some p, some slot =>
      match s.enrolled p, s.slot p slot with
      | some e, some x =>
        accept (be1 p.val ++ be1 slot.val ++ slotBody x ++ be1 e.descriptor.floorPercent
          ++ flagByte (decide (slotEmptyOf .supply e.codes.supply = some slot.val))
          ++ openReorderBytes (s.openReorder p slot)) s
      | _, _ => refuse .noSuch s
    | _, _ => refuse .malformed s

def execQuerySlot (port : PortNo) (tag : Byte) (body : List Byte) (s : State) :
    Host.Outcome State Fault Refusal :=
  .next (s.takeRequest .querySlot port tag body (workQuerySlot body))

/-! ### TAKE ORDERS (R143) -/

/-- RAISED records of an urgency, in list order. -/
def State.raisedOrders (s : State) (u : Urgency) : List Reorder :=
  s.reorders.filter fun r => decide (r.state = .raised) && decide (r.urgency = u)

/-- Closed records, in list order. -/
def State.closedOrders (s : State) : List Reorder := s.reorders.filter fun r => !r.state.isOpen

/-- The records that TAKE ORDERS returns, in its order, as they stood (R143). -/
def State.ordersTaken (s : State) : List Reorder :=
  (s.raisedOrders .urgent ++ s.raisedOrders .normal ++ s.closedOrders).take 8

/-- The list after the returned records became SENT or were freed (R143). -/
def State.sendOrders (s : State) : State :=
  let taken := s.ordersTaken.map (·.number)
  { s with
    reorders := (s.reorders.filter fun r => !(decide (r.number ∈ taken) && !r.state.isOpen)).map fun r =>
      if r.number ∈ taken then { r with state := .sent } else r }

/-- The order reference that a returned record carries: a closed record's own (R143). -/
def Reorder.carriedRef (r : Reorder) : Option Word32 := if r.state.isOpen then none else r.orderRef

/-- Bytes 2 and 3 of the reorder record (section 12.4). -/
def Reorder.packed (r : Reorder) (state : ReorderState) : Nat :=
  r.printer.val + 64 * r.slot + 512 * r.kind.code + 2048 * r.urgency.code + 4096 * state.code
    + 32768 * r.carriedRef.isSome.toNat

/-- A reorder record in a TAKE ORDERS answer, in the state the request leaves it (section 12.4). -/
def Reorder.record (r : Reorder) : List Byte :=
  be2 r.number ++ be2 (r.packed (if r.state.isOpen then .sent else r.state)) ++ clockBytes r.raisedAt
    ++ be1 r.level ++ be4 (r.carriedRef.getD 0)

/-- TAKE ORDERS's work (R143). -/
def workTakeOrders (body : List Byte) (s : State) : State × Option Reply :=
  if body.length ≠ 0 then refuse .malformed s
  else
    let taken := s.ordersTaken
    let s' := s.sendOrders
    accept (be1 taken.length ++ be2 (s'.raisedOrders .urgent ++ s'.raisedOrders .normal).length
      ++ be2 s'.closedOrders.length ++ (taken.map Reorder.record).flatten) s'

def execTakeOrders (port : PortNo) (tag : Byte) (body : List Byte) (s : State) :
    Host.Outcome State Fault Refusal :=
  .next (s.takeRequest .takeOrders port tag body (workTakeOrders body))

/-! ### CONFIRM ORDER, CANCEL ORDER, SET LEAD TIME, QUERY ORDER (R144 to R147) -/

/-- The record of a reorder number. -/
def State.reorder (s : State) (number : Nat) : Option Reorder := s.reorders.find? fun r => decide (r.number = number)

/-- A reorder number 1-65,535. -/
def orderNumberAt (b : List Byte) (i : Nat) : Option Nat := if u16 b i = 0 then none else some (u16 b i)

/-- The fields of a reorder in the QUERY ORDER answer (R147). -/
def State.orderBody (s : State) (r : Reorder) : List Byte :=
  let x := s.slot r.printer r.slot
  be2 r.number ++ be1 r.printer.val ++ be1 r.slot ++ be1 r.kind.code ++ be1 r.urgency.code ++ be1 r.state.code
    ++ clockBytes r.raisedAt ++ be1 r.level ++ optField 4 be4 r.orderRef ++ optField 2 be2 r.expectedDay
    ++ optField 1 (fun x : Slot => be1 x.level) x ++ optField 2 (fun x : Slot => be2 x.daysToEmpty) x
    ++ be1 s.leadDays ++ be1 s.safetyDays

/-- CONFIRM ORDER's work (R144). Its answer is the whole body of a QUERY ORDER answer, with the slot's figures and the
two settings (log 36). -/
def workConfirmOrder (body : List Byte) (s : State) : State × Option Reply :=
  if body.length ≠ 8 then refuse .malformed s
  else match orderNumberAt body 0 with
    | none => refuse .malformed s
    | some number =>
      match s.reorder number with
      | none => refuse .noSuch s
      | some r =>
        if r.state = .sent then
          let r' := { r with
            state := .confirmed, orderRef := some (u32 body 2), expectedDay := some (u16 body 6) }
          accept (s.orderBody r') (s.modReorder number fun _ => r')
        else refuse .wrongState s

def execConfirmOrder (port : PortNo) (tag : Byte) (body : List Byte) (s : State) :
    Host.Outcome State Fault Refusal :=
  .next (s.takeRequest .confirmOrder port tag body (workConfirmOrder body))

/-- CANCEL ORDER's work (R145). -/
def workCancelOrder (body : List Byte) (s : State) : State × Option Reply :=
  if body.length ≠ 2 then refuse .malformed s
  else match orderNumberAt body 0 with
    | none => refuse .malformed s
    | some number =>
      match s.reorder number with
      | none => refuse .noSuch s
      | some r => if r.state.isOpen then accept [] (s.closeReorder r .cancelled) else refuse .wrongState s

def execCancelOrder (port : PortNo) (tag : Byte) (body : List Byte) (s : State) :
    Host.Outcome State Fault Refusal :=
  .next (s.takeRequest .cancelOrder port tag body (workCancelOrder body))

/-- The settings of a SET LEAD TIME body: lead days and safety days, clamped, each a number or no change
(R146). -/
def leadTimesAt (b : List Byte) : Option (Option Nat × Option Nat) :=
  if b.length ≠ 4 then none
  else do
    let lead ← amendedOf (← choiceAt b 0 [3] (u8 b 1)) valueOf
    let safety ← amendedOf (← choiceAt b 2 [3] (u8 b 3)) valueOf
    some (lead.map (clamp 1 90), safety.map (clamp 0 30))

/-- SET LEAD TIME's work (R146). -/
def workSetLeadTime (body : List Byte) (s : State) : State × Option Reply :=
  match leadTimesAt body with
  | none => refuse .malformed s
  | some (lead, safety) =>
    let s := { s with leadDays := lead.getD s.leadDays, safetyDays := safety.getD s.safetyDays }
    accept (be1 s.leadDays ++ be1 s.safetyDays) s

def execSetLeadTime (port : PortNo) (tag : Byte) (body : List Byte) (s : State) :
    Host.Outcome State Fault Refusal :=
  .next (s.takeRequest .setLeadTime port tag body (workSetLeadTime body))

/-- The record with the lowest number at or above one (R147). -/
def State.nextReorder (s : State) (number : Nat) : Option Reorder :=
  (s.reorders.filter fun r => decide (number ≤ r.number)).foldl
    (fun best r => match best with
      | some b => if r.number < b.number then some r else some b
      | none => some r) none

/-- QUERY ORDER's work (R147). -/
def workQueryOrder (body : List Byte) (s : State) : State × Option Reply :=
  if body.length ≠ 3 then refuse .malformed s
  else match orderNumberAt body 0, flagAt body 2 with
    | some number, some next =>
      match (if next then s.nextReorder number else s.reorder number) with
      | some r => accept (s.orderBody r) s
      | none => refuse .noSuch s
    | _, _ => refuse .malformed s

def execQueryOrder (port : PortNo) (tag : Byte) (body : List Byte) (s : State) :
    Host.Outcome State Fault Refusal :=
  .next (s.takeRequest .queryOrder port tag body (workQueryOrder body))

end Sys2Proof.Machine
end

