-- ==== Sys2Proof/Machine/Callouts.lean ====
section
/-! DEFINITION. The callout requests of the facilities station (chapter 9). -/

namespace Sys2Proof.Machine

/-- The record of a callout number. -/
def State.calloutOf (s : State) (n : CalloutNo) : Option Callout := s.callout (calloutPrinter n) (calloutClass n)

/-- A callout in an answer: the fields of Table 9.4, then the class's current code and the seconds left on its
grace timer (R169; log 17, log 22). -/
def State.calloutBody (s : State) (n : CalloutNo) (x : Callout) : List Byte :=
  let cls := calloutClass n
  let e := s.enrolled (calloutPrinter n)
  be2 n.val ++ be1 (calloutPrinter n).val ++ be1 (condClassCode cls) ++ [x.code] ++ clockBytes x.openedAt
    ++ be1 x.state.code ++ be1 x.reopenCount ++ optField 2 be2 x.reorder ++ optField 2 handleBytes x.job
    ++ [(e.map (·.codes.get cls)).getD 0] ++ optField 3 be3 (e.bind (·.grace.get cls))

/-- A request whose body is one callout number that holds a record (R168). -/
def onCallout (body : List Byte) (s : State) (work : CalloutNo → Callout → State → State × Option Reply) :
    State × Option Reply :=
  if body.length ≠ 2 then refuse .malformed s
  else match numberBelow 192 (u16 body 0) with
    | none => refuse .malformed s
    | some n => match s.calloutOf n with
      | none => refuse .noSuch s
      | some x => work n x s

/-- ACKNOWLEDGE CALLOUT's work (R168). -/
def workAcknowledgeCallout (n : CalloutNo) (x : Callout) (s : State) : State × Option Reply :=
  if x.state = .opened then
    let x' := { x with state := .dispatched }
    accept (s.calloutBody n x') (s.setCallout (calloutPrinter n) (calloutClass n) (some x'))
  else refuse .wrongState s

def execAcknowledgeCallout (port : PortNo) (tag : Byte) (body : List Byte) (s : State) :
    Host.Outcome State Fault Refusal :=
  .next (s.takeRequest .acknowledgeCallout port tag body fun s => onCallout body s workAcknowledgeCallout)

/-- CLOSE CALLOUT's work (R168). -/
def workCloseCallout (n : CalloutNo) (x : Callout) (s : State) : State × Option Reply :=
  if x.state = .cleared then accept (be2 n.val) (s.setCallout (calloutPrinter n) (calloutClass n) none)
  else refuse .wrongState s

def execCloseCallout (port : PortNo) (tag : Byte) (body : List Byte) (s : State) :
    Host.Outcome State Fault Refusal :=
  .next (s.takeRequest .closeCallout port tag body fun s => onCallout body s workCloseCallout)

/-- The callouts at or above a number, in number order. -/
def State.calloutsFrom (s : State) (start : Nat) : List (CalloutNo × Callout) :=
  ((List.finRange 192).filter fun n => decide (start ≤ n.val)).filterMap fun n => (s.calloutOf n).map fun x => (n, x)

/-- The number that follows the last record returned, when a record lies beyond it (R169). -/
def nextStart (all : List (CalloutNo × Callout)) : Option Nat :=
  if all.length ≤ 5 then none else (all[4]?).map fun x => x.1.val + 1

/-- QUERY CALLOUTS's work (R169): at most 5 records, in number order. -/
def workQueryCallouts (body : List Byte) (s : State) : State × Option Reply :=
  if body.length ≠ 2 then refuse .malformed s
  else match numberBelow 192 (u16 body 0) with
    | none => refuse .malformed s
    | some start =>
      let all := s.calloutsFrom start.val
      accept (runField (fun x => s.calloutBody x.1 x.2) (all.take 5) ++ optField 2 be2 (nextStart all)) s

def execQueryCallouts (port : PortNo) (tag : Byte) (body : List Byte) (s : State) :
    Host.Outcome State Fault Refusal :=
  .next (s.takeRequest .queryCallouts port tag body (workQueryCallouts body))

end Sys2Proof.Machine
end

