-- ==== Sys2Proof/Machine/Clock.lean ====
section
/-! DEFINITION. The fleet clock and start-up (chapter 11): second marks and the timers they drive, minute marks,
day close, SET CLOCK, power-on and FLEET RESET. -/

namespace Sys2Proof.Machine

/-! ### Second marks (R188, R190) -/

/-- The reading that follows another (R188). -/
def Clock.succ (c : Clock) : Clock :=
  if c.second < 86399 then ⟨c.day, c.second + 1⟩ else ⟨if c.day < 65535 then c.day + 1 else 0, 0⟩

/-- Whether a reading is one that a minute mark produces (R189). -/
def Clock.onMinute (c : Clock) : Bool := decide (c.second % 60 = 0)

/-- Whether a reading is the last of its day (R188). -/
def Clock.lastSecond (c : Clock) : Bool := decide (86399 ≤ c.second)

/-- A timer after one second mark; an expired timer rests at 0 (R190; log 4). -/
def tick (timer : Option Nat) : Option Nat := timer.map (· - 1)

/-- The grace timers of a printer after one second mark. -/
def Printer.tick : Printer → Printer
  | .enrolled e => .enrolled { e with
      grace := ⟨Machine.tick e.grace.user, Machine.tick e.grace.supply, Machine.tick e.grace.service⟩ }
  | p => p

/-- The silence timer of a position after one second mark. -/
def Position.tick (x : Position) : Position := { x with silence := Machine.tick x.silence }

/-- The window timer of a session after one second mark. -/
def Session.tick (x : Session) : Session := { x with window := Machine.tick x.window }

/-- The start timer or suspend timer of a job after one second mark. -/
def JobState.tick : JobState → JobState
  | .granted p cam timer => .granted p cam (Machine.tick timer)
  | .suspended p cam timer => .suspended p cam (timer - 1)
  | st => st

/-- The timers of a job record after one second mark. -/
def JobRecord.tick (r : JobRecord) : JobRecord :=
  { r with job := r.job.map fun j => { j with state := j.state.tick } }

/-- A second mark: the clock advances and every timer of Table 11.1 counts down (R188, R190). A minute mark or
a day close that it makes is due from now on (R189, R191; log 5). -/
def State.secondMark (s : State) : State :=
  let clock := s.clock.succ
  { s with
    clock := clock
    printers := s.printers.map Printer.tick
    positions := s.positions.map Position.tick
    jobs := s.jobs.map JobRecord.tick
    sessions := s.sessions.map fun x => x.map Session.tick
    minuteMarksDue := s.minuteMarksDue + (if clock.onMinute then 1 else 0)
    dayClosesDue := s.dayClosesDue + (if s.clock.lastSecond then 1 else 0)
    lastMinuteMark := if clock.onMinute then clock else s.lastMinuteMark }

def execSecondMark (s : State) : Host.Outcome State Fault Refusal := .next s.secondMark

/-- A minute mark that is due is taken: the hold minutes of HELD jobs count down (R71, R189). -/
def State.takeMinuteMark (s : State) : State :=
  { s.countDown with minuteMarksDue := s.minuteMarksDue - 1 }

/-- R189. The minute mark of the second mark that made one due; with none due, a second mark that lands on a
multiple of 60 is taken together with its minute mark; otherwise there is no minute mark (log 5). -/
def execMinuteMark (s : State) : Host.Outcome State Fault Refusal :=
  if 0 < s.minuteMarksDue then .next s.takeMinuteMark
  else if s.clock.succ.onMinute then .next s.secondMark.takeMinuteMark
  else .next s

/-- A day close that is due is taken: every slot is rated and tested (R124, R191). -/
def State.takeDayClose (s : State) : State :=
  { s.closeDay with dayClosesDue := s.dayClosesDue - 1 }

/-- R191. The day close of the second mark that made one due; with none due, the second mark that wraps the
second of day is taken together with its day close; otherwise there is no day close (log 5). -/
def execDayClose (s : State) : Host.Outcome State Fault Refusal :=
  if 0 < s.dayClosesDue then .next s.takeDayClose
  else if s.clock.lastSecond then .next s.secondMark.takeDayClose
  else .next s

/-! ### SET CLOCK (R192) -/

/-- A second of day 0-86,399. -/
def secondOfDay (x : Nat) : Option Nat := if x ≤ 86399 then some x else none

/-- The fields of a SET CLOCK body: day number and second of day, each a value or no change (R192). -/
def clockAt (b : List Byte) : Option (Option Nat × Option Nat) :=
  if b.length ≠ 7 then none
  else do
    let day ← amendedOf (← choiceAt b 0 [3] (u16 b 1)) valueOf
    let second ← amendedOf (← choiceAt b 3 [3] (secondOfDay (u24 b 4))) (fun c => (valueOf c).join)
    some (day, second)

/-- SET CLOCK's work (R192): it makes no mark. -/
def workSetClock (body : List Byte) (s : State) : State × Option Reply :=
  match clockAt body with
  | none => refuse .malformed s
  | some (day, second) =>
    let clock : Clock := ⟨day.getD s.clock.day, second.getD s.clock.second⟩
    accept (clockBytes clock) { s with clock := clock }

def execSetClock (port : PortNo) (tag : Byte) (body : List Byte) (s : State) :
    Host.Outcome State Fault Refusal :=
  .next (s.takeRequest .setClock port tag body (workSetClock body))

/-! ### Power-on and FLEET RESET (R193, R194) -/

/-- Every block at its starting values. The commands that wait, the levels of the service request lines and the
count of draws are not the controller's to reset (log 25). -/
def State.restart (s : State) : State :=
  { State.reset with pending := s.pending, serviceLines := s.serviceLines, draws := s.draws }

/-- R193. -/
def execPowerOn (s : State) : Host.Outcome State Fault Refusal := .next s.restart.serveChannels

/-- R194. With an empty body on port 0 it is never answered OVERLAP: the reset is done first, and the request
then stands as port 0's outstanding request, answered with the clock's reading (R174 step 1). -/
def execFleetReset (port : PortNo) (tag : Byte) (body : List Byte) (s : State) :
    Host.Outcome State Fault Refusal :=
  if port = 0 ∧ body = [] then
    .next ((s.restart.serveChannels.beginRequest 0 (Request.code .fleetReset) tag).reply 0
      (Request.code .fleetReset) tag (some ⟨.accepted, clockBytes ⟨0, 0⟩⟩))
  else .next (s.takeRequest .fleetReset port tag body (refuse .malformed))

end Sys2Proof.Machine
end

