-- ==== Sys2Proof/Machine/Links.lean ====
section
/-! DEFINITION. Request frames as they arrive on a tower link (chapter 10): a frame of any code, an unknown code,
a request on a port that has one outstanding, and bytes that hold no frame. -/

namespace Sys2Proof.Machine

/-- A request frame of a code in Table 12.4, taken as that request (R174). -/
def execRequest (r : Request) (port : PortNo) (tag : Byte) (body : List Byte) (s : State) :
    Host.Outcome State Fault Refusal :=
  match r with
  | .enrolPrinter => execEnrolPrinter port tag body s
  | .disablePrinter => execDisablePrinter port tag body s
  | .enablePrinter => execEnablePrinter port tag body s
  | .removePrinter => execRemovePrinter port tag body s
  | .setSharing => execSetSharing port tag body s
  | .queryPrinter => execQueryPrinter port tag body s
  | .resetChannel => execResetChannel port tag body s
  | .defineTenant => execDefineTenant port tag body s
  | .amendTenant => execAmendTenant port tag body s
  | .removeTenant => execRemoveTenant port tag body s
  | .renewPool => execRenewPool port tag body s
  | .queryTenant => execQueryTenant port tag body s
  | .createAccount => execCreateAccount port tag body s
  | .amendAccount => execAmendAccount port tag body s
  | .removeAccount => execRemoveAccount port tag body s
  | .queryAccount => execQueryAccount port tag body s
  | .renewPeriod => execRenewPeriod port tag body s
  | .submitJob => execSubmitJob port tag body s
  | .withdraw => execWithdraw port tag body s
  | .queryJob => execQueryJob port tag body s
  | .takeCompletions => execTakeCompletions port tag body s
  | .querySlot => execQuerySlot port tag body s
  | .takeOrders => execTakeOrders port tag body s
  | .confirmOrder => execConfirmOrder port tag body s
  | .cancelOrder => execCancelOrder port tag body s
  | .setLeadTime => execSetLeadTime port tag body s
  | .queryOrder => execQueryOrder port tag body s
  | .acknowledgeCallout => execAcknowledgeCallout port tag body s
  | .closeCallout => execCloseCallout port tag body s
  | .queryCallouts => execQueryCallouts port tag body s
  | .bindPort => execBindPort port tag body s
  | .resetPort => execResetPort port tag body s
  | .queryPort => execQueryPort port tag body s
  | .readAttention => execReadAttention port tag body s
  | .clearAttention => execClearAttention port tag body s
  | .setMask => execSetMask port tag body s
  | .setClock => execSetClock port tag body s
  | .fleetReset => execFleetReset port tag body s

/-- A request frame received whole, of any code (R174; log 2). -/
def State.requestFrame (s : State) (port : PortNo) (code tag : Byte) (body : List Byte) :
    Host.Outcome State Fault Refusal :=
  match Request.ofCode code with
  | some r => execRequest r port tag body s
  | none => .next (s.takeUnknown port code tag body)

/-- R176. On a port with an outstanding request the frame is answered OVERLAP; on any other port it is examined
as what it is (log 2). -/
def execOverlap (port : PortNo) (code tag : Byte) (body : List Byte) (s : State) :
    Host.Outcome State Fault Refusal :=
  s.requestFrame port code tag body

/-- R174 step 3. A code of Table 12.4 is examined as the request it names (log 2). -/
def execUnknownRequest (port : PortNo) (code tag : Byte) (body : List Byte) (s : State) :
    Host.Outcome State Fault Refusal :=
  s.requestFrame port code tag body

/-- R173. Bytes that hold no frame received whole, or a frame of another kind than REQUEST, change nothing; bytes
that do hold a request frame are examined as that (log 2). -/
def execTowerFrameDiscarded (port : PortNo) (bytes : List Byte) (s : State) : Host.Outcome State Fault Refusal :=
  match TowerFrame.receive bytes with
  | some f => if f.kind = kindRequest then s.requestFrame port f.code f.tag f.body else .next s
  | none => .next s

end Sys2Proof.Machine
end

