-- ==== Sys2Proof/Machine/Dispatch.lean ====
section
/-! DEFINITION. The meaning of every command: one arm for each row of spec/opcode_table.json. -/

namespace Sys2Proof.Machine

/-- The effect of a command on everything but the queue. -/
def exec (i : Instr) (s : State) : Host.Outcome State Fault Refusal :=
  match i with
  | .powerOn => Sys2Proof.Machine.execPowerOn s
  | .secondMark => Sys2Proof.Machine.execSecondMark s
  | .dayClose => Sys2Proof.Machine.execDayClose s
  | .minuteMark => Sys2Proof.Machine.execMinuteMark s
  | .jobExpire => Sys2Proof.Machine.execJobExpire s
  | .windowTimerExpiry printer => Sys2Proof.Machine.execWindowTimerExpiry printer s
  | .startTimerExpiry printer => Sys2Proof.Machine.execStartTimerExpiry printer s
  | .suspendTimerExpiry printer => Sys2Proof.Machine.execSuspendTimerExpiry printer s
  | .graceTimerExpiry printer cls => Sys2Proof.Machine.execGraceTimerExpiry printer cls s
  | .silenceTimerExpiry c k => Sys2Proof.Machine.execSilenceTimerExpiry c k s
  | .requestAnswerTimeout c => Sys2Proof.Machine.execRequestAnswerTimeout c s
  | .reportCallTimeout c => Sys2Proof.Machine.execReportCallTimeout c s
  | .serviceRequestActive c k => Sys2Proof.Machine.execServiceRequestActive c k s
  | .describeAnswer c k body => Sys2Proof.Machine.execDescribeAnswer c k body s
  | .grantAnswer c k body => Sys2Proof.Machine.execGrantAnswer c k body s
  | .acknowledgementAnswer c k kind body => Sys2Proof.Machine.execAcknowledgementAnswer c k kind body s
  | .probeAnswer c k body => Sys2Proof.Machine.execProbeAnswer c k body s
  | .strayFrame c k cls kind body => Sys2Proof.Machine.execStrayFrame c k cls kind body s
  | .riserFrameDiscarded c bytes => Sys2Proof.Machine.execRiserFrameDiscarded c bytes s
  | .nothing c k line => Sys2Proof.Machine.execNothing c k line s
  | .unknownKind c k kind body line => Sys2Proof.Machine.execUnknownKind c k kind body line s
  | .present c k body line => Sys2Proof.Machine.execPresent c k body line s
  | .select c k body line => Sys2Proof.Machine.execSelect c k body line s
  | .logout c k body line => Sys2Proof.Machine.execLogout c k body line s
  | .jobStart c k body line => Sys2Proof.Machine.execJobStart c k body line s
  | .sides c k body line => Sys2Proof.Machine.execSides c k body line s
  | .jobResumed c k body line => Sys2Proof.Machine.execJobResumed c k body line s
  | .jobEnd c k body line => Sys2Proof.Machine.execJobEnd c k body line s
  | .condition c k body line => Sys2Proof.Machine.execCondition c k body line s
  | .cartridge c k body line => Sys2Proof.Machine.execCartridge c k body line s
  | .towerFrameDiscarded port bytes => Sys2Proof.Machine.execTowerFrameDiscarded port bytes s
  | .overlap port code tag body => Sys2Proof.Machine.execOverlap port code tag body s
  | .unknownRequest port code tag body => Sys2Proof.Machine.execUnknownRequest port code tag body s
  | .transmitterBegin port => Sys2Proof.Machine.execTransmitterBegin port s
  | .frameSentWhole port => Sys2Proof.Machine.execFrameSentWhole port s
  | .enrolPrinter port tag body => Sys2Proof.Machine.execEnrolPrinter port tag body s
  | .disablePrinter port tag body => Sys2Proof.Machine.execDisablePrinter port tag body s
  | .enablePrinter port tag body => Sys2Proof.Machine.execEnablePrinter port tag body s
  | .removePrinter port tag body => Sys2Proof.Machine.execRemovePrinter port tag body s
  | .setSharing port tag body => Sys2Proof.Machine.execSetSharing port tag body s
  | .queryPrinter port tag body => Sys2Proof.Machine.execQueryPrinter port tag body s
  | .resetChannel port tag body => Sys2Proof.Machine.execResetChannel port tag body s
  | .defineTenant port tag body => Sys2Proof.Machine.execDefineTenant port tag body s
  | .amendTenant port tag body => Sys2Proof.Machine.execAmendTenant port tag body s
  | .removeTenant port tag body => Sys2Proof.Machine.execRemoveTenant port tag body s
  | .renewPool port tag body => Sys2Proof.Machine.execRenewPool port tag body s
  | .queryTenant port tag body => Sys2Proof.Machine.execQueryTenant port tag body s
  | .createAccount port tag body => Sys2Proof.Machine.execCreateAccount port tag body s
  | .amendAccount port tag body => Sys2Proof.Machine.execAmendAccount port tag body s
  | .removeAccount port tag body => Sys2Proof.Machine.execRemoveAccount port tag body s
  | .queryAccount port tag body => Sys2Proof.Machine.execQueryAccount port tag body s
  | .renewPeriod port tag body => Sys2Proof.Machine.execRenewPeriod port tag body s
  | .submitJob port tag body => Sys2Proof.Machine.execSubmitJob port tag body s
  | .withdraw port tag body => Sys2Proof.Machine.execWithdraw port tag body s
  | .queryJob port tag body => Sys2Proof.Machine.execQueryJob port tag body s
  | .takeCompletions port tag body => Sys2Proof.Machine.execTakeCompletions port tag body s
  | .querySlot port tag body => Sys2Proof.Machine.execQuerySlot port tag body s
  | .takeOrders port tag body => Sys2Proof.Machine.execTakeOrders port tag body s
  | .confirmOrder port tag body => Sys2Proof.Machine.execConfirmOrder port tag body s
  | .cancelOrder port tag body => Sys2Proof.Machine.execCancelOrder port tag body s
  | .setLeadTime port tag body => Sys2Proof.Machine.execSetLeadTime port tag body s
  | .queryOrder port tag body => Sys2Proof.Machine.execQueryOrder port tag body s
  | .acknowledgeCallout port tag body => Sys2Proof.Machine.execAcknowledgeCallout port tag body s
  | .closeCallout port tag body => Sys2Proof.Machine.execCloseCallout port tag body s
  | .queryCallouts port tag body => Sys2Proof.Machine.execQueryCallouts port tag body s
  | .bindPort port tag body => Sys2Proof.Machine.execBindPort port tag body s
  | .resetPort port tag body => Sys2Proof.Machine.execResetPort port tag body s
  | .queryPort port tag body => Sys2Proof.Machine.execQueryPort port tag body s
  | .readAttention port tag body => Sys2Proof.Machine.execReadAttention port tag body s
  | .clearAttention port tag body => Sys2Proof.Machine.execClearAttention port tag body s
  | .setMask port tag body => Sys2Proof.Machine.execSetMask port tag body s
  | .setClock port tag body => Sys2Proof.Machine.execSetClock port tag body s
  | .fleetReset port tag body => Sys2Proof.Machine.execFleetReset port tag body s

end Sys2Proof.Machine
end

