-- ==== Sys2Proof/Safety.lean ====
section
/-! DEFINITION. What holds of the controller's records between any two commands, in the terms that the statements
use. Each invariant holds right after reset, and every command keeps it. -/

namespace Sys2Proof.Machine

/-! ### Clock, ports, lines, arbiters -/

/-- The clock's reading lies in its ranges (R188). -/
def State.ClockInRange (s : State) : Prop := s.clock.day ≤ 65535 ∧ s.clock.second ≤ 86399

/-- The roles of the ports: FACILITIES is port 0's alone, SUPPLIES is held by at most one port, and a port of a
tenant is bound to a DEFINED one (R45, R172, R185). -/
def State.PortsBound (s : State) : Prop :=
  (∀ n, (s.ports.rd n).role = .facilities ↔ n = 0)
    ∧ (∀ m n, (s.ports.rd m).role = .supplies → (s.ports.rd n).role = .supplies → m = n)
    ∧ (∀ n t, (s.ports.rd n).role = .tenant t → (s.tenants.rd t).isSome = true)

/-- Each callout line is asserted exactly while a callout of its class is OPEN (R167). -/
def State.LinesFollow (s : State) : Prop :=
  ∀ cls, s.lines.get cls = true ↔
    ∃ n x, calloutClass n = cls ∧ s.callouts.rd n = some x ∧ x.state = .opened

/-- No channel is IDLE while one of its positions has a mark set or asks for service: the arbiters have nothing
left to choose (R25). -/
def State.Quiet (s : State) : Prop :=
  ∀ c k, s.channels.rd c = .idle →
    (∀ kind, (s.positions.rd (printerAt c k)).marked kind = false) ∧ s.serviceLines.rd (printerAt c k) = false

/-! ### Printers, slots, sessions -/

/-- A session stands only at a printer that is IN_SERVICE and gives its tenant access (R18, R79, R81). -/
def State.SessionsServed (s : State) : Prop :=
  ∀ p x, s.sessions.rd p = some x →
    ∃ e, s.enrolled p = some e ∧ e.service = .inService ∧ e.sharing.gives x.account.tenant = true

/-- A slot's derived values follow its other fields, and its remaining doses lie within its capacity (R118,
R119). -/
def Slot.Derived (x : Slot) : Prop :=
  5000 ≤ x.capacity ∧ x.remaining ≤ x.capacity ∧ x.level = x.remaining * 100 / x.capacity
    ∧ x.daysToEmpty = if x.rate = 0 then 999 else min (x.remaining / x.rate) 999

/-- Every enrolled printer has 1 to 5 slots, each with its derived values (R117, R119). -/
def State.SlotsDerived (s : State) : Prop :=
  ∀ p e, s.enrolled p = some e →
    1 ≤ e.slots.length ∧ e.slots.length ≤ 5 ∧ ∀ x ∈ e.slots, x.Derived

/-! ### Reorders -/

/-- Reorder numbers are distinct and in range, the counter stands at a number that no record holds, and each slot
has at most one open and at most one closed record (R136). -/
def State.ReordersKept (s : State) : Prop :=
  (s.reorders.map (·.number)).Nodup ∧ s.reorderCounter ∉ s.reorders.map (·.number)
    ∧ 1 ≤ s.reorderCounter ∧ s.reorderCounter ≤ 65535
    ∧ (∀ r ∈ s.reorders, 1 ≤ r.number ∧ r.number ≤ 65535 ∧ r.slot < 5)
    ∧ (∀ r ∈ s.reorders, ∀ q ∈ s.reorders, r.printer = q.printer → r.slot = q.slot →
        r.state.isOpen = q.state.isOpen → r = q)

/-! ### The job pool and the accounts -/

/-- Whether a job is unfinished: HELD or active (R63). -/
def JobState.unfinished : JobState → Bool
  | .complete _ _ => false
  | _ => true

/-- The records in use that satisfy a test. -/
def State.countJobs (s : State) (which : Job → Bool) : Nat :=
  (s.jobs.cells.filter fun r => r.job.any which).length

/-- The lists of the pool: a record stands in the free list exactly while it is free, in the submission list
exactly while its job is unfinished, and in its tenant's completion list exactly while it is COMPLETE; no list
holds a record twice (R59, R63, R76). -/
def State.PoolListed (s : State) : Prop :=
  s.freeList.Nodup ∧ s.submission.Nodup ∧ (∀ t, (s.completions.rd t).Nodup)
    ∧ (∀ n, n ∈ s.freeList ↔ s.jobAt n = none)
    ∧ (∀ n, n ∈ s.submission ↔ ∃ j, s.jobAt n = some j ∧ j.state.unfinished = true)
    ∧ (∀ n t, n ∈ s.completions.rd t ↔
        ∃ j, s.jobAt n = some j ∧ j.state.unfinished = false ∧ j.owner.tenant = t)

/-- A printer's active job and the job's printer name each other, and a DISABLED printer has none (R1, R19,
R62). -/
def State.ActiveLinked (s : State) : Prop :=
  (∀ n j p cam, s.jobAt n = some j → j.state.active = some (p, cam) → s.activeJob p = some (s.handleOf n))
    ∧ (∀ p h, s.activeJob p = some h → ∃ j cam, s.job h = some j ∧ j.state.active = some (p, cam))
    ∧ (∀ p e, s.enrolled p = some e → e.service = .disabled → e.activeJob = none)

/-- No two accounts have the same tenant and number, every account's tenant is DEFINED, every job's tenant is
DEFINED, and an unfinished job's account is in use (R45, R47, R54). -/
def State.Owned (s : State) : Prop :=
  (s.accounts.map (·.key)).Nodup
    ∧ (∀ a ∈ s.accounts, (s.tenants.rd a.key.tenant).isSome = true)
    ∧ (∀ n j, s.jobAt n = some j → (s.tenants.rd j.owner.tenant).isSome = true)
    ∧ (∀ n j, s.jobAt n = some j → j.state.unfinished = true → (s.account j.owner).isSome = true)

/-- The counts kept in step with the pool and the account table: a tenant's live job count and account count, and
an account's held job count; the two counts of a tenant lie within its limits (R40, R68). -/
def State.Counted (s : State) : Prop :=
  (∀ t x, s.tenants.rd t = some x →
      x.liveJobs = s.countJobs (fun j => decide (j.owner.tenant = t)) ∧ x.liveJobs ≤ x.jobLimit
        ∧ x.accountCount = (s.accounts.filter fun a => decide (a.key.tenant = t)).length
        ∧ x.accountCount ≤ x.accountLimit)
    ∧ (∀ a ∈ s.accounts,
        a.heldJobs = s.countJobs fun j => decide (j.owner = a.key) && decide (j.state = .held))

/-- A session's account names the session's printer, and an account's session field names a session of it; every
handle of a release list is a HELD job's, of the session's account, and a handle stands in one release list at
most, once, of at most 8 (R79). -/
def State.SessionsKept (s : State) : Prop :=
  (∀ p x, s.sessions.rd p = some x → ∃ a, s.account x.account = some a ∧ a.session = some p)
    ∧ (∀ a ∈ s.accounts, ∀ p, a.session = some p → ∃ x, s.sessions.rd p = some x ∧ x.account = a.key)
    ∧ (∀ p x, s.sessions.rd p = some x → x.release.Nodup ∧ x.release.length ≤ 8
        ∧ ∀ h ∈ x.release, ∃ j, s.job h = some j ∧ j.state = .held ∧ j.owner = x.account)
    ∧ (∀ p q x y h, s.sessions.rd p = some x → s.sessions.rd q = some y → h ∈ x.release → h ∈ y.release → p = q)

/-- The bookkeeping of jobs, accounts and sessions as one invariant: its parts are kept only together. -/
def State.BooksKept (s : State) : Prop :=
  s.PoolListed ∧ s.ActiveLinked ∧ s.Owned ∧ s.Counted ∧ s.SessionsKept

/-! ### Reservations -/

/-- What the jobs of an account hold reserved (R101). -/
def State.reservedByJobs (s : State) (key : AccountKey) : Nat :=
  (s.jobs.cells.map fun r => match r.job with
    | some j => if j.owner = key then j.reserved else 0
    | none => 0).sum

/-- What the accounts of a tenant hold reserved (R40). -/
def State.reservedByAccounts (s : State) (t : TenantNo) : Nat :=
  (s.accounts.map fun a => if a.key.tenant = t then a.reserved else 0).sum

/-- Reservations agree: a job holds one only while it is active; an account's reserved is the sum over its jobs;
a pool's reserved is the sum over the tenant's accounts (R40, R101). -/
def State.ReservationsAgree (s : State) : Prop :=
  (∀ n j, s.jobAt n = some j → j.state.active = none → j.reserved = 0)
    ∧ (∀ a ∈ s.accounts, a.reserved = s.reservedByJobs a.key)
    ∧ (∀ t x, s.tenants.rd t = some x → x.poolReserved = s.reservedByAccounts t)

/-! ### Requests on the tower links -/

/-- A port on which a request of a kind is passed to the block that owns it: nothing outstanding, the role may
make it, and the body is one the link carries (R173, R174). -/
def State.Ready (s : State) (port : PortNo) (r : Request) (body : List Byte) : Prop :=
  (s.ports.rd port).outstanding = none ∧ permits r (s.ports.rd port).role = true ∧ body.length ≤ towerBodyMax

/-- The state in which the block takes a request: it stands as the port's outstanding request (R174). -/
def State.begun (s : State) (port : PortNo) (r : Request) (tag : Byte) : State :=
  s.setPort port { s.ports.rd port with outstanding := some ⟨r.code, tag⟩ }

/-- The state with an answer in the port's answer slot, of the request's code and tag (R175). -/
def State.replied (s : State) (port : PortNo) (r : Request) (tag : Byte) (status : Status) (body : List Byte) :
    State :=
  s.setPort port { s.ports.rd port with answer := some ⟨r.code, tag, status, body⟩ }

/-- A frame on port 0 that is a RESET PORT naming port 0, or a FLEET RESET with an empty body: never answered
OVERLAP (R174 step 1). -/
def selfReset (port : PortNo) (r : Request) (body : List Byte) : Prop :=
  port = 0 ∧ ((r = .resetPort ∧ body = [0]) ∨ (r = .fleetReset ∧ body = []))

/-- An ACCEPTED answer in the port's answer slot. -/
def State.acceptedWith (s : State) (port : PortNo) (r : Request) (tag : Byte) (body : List Byte) : State :=
  s.replied port r tag .accepted body

/-! ### Transactions on the riser channels -/

/-- A report transaction is in flight to a position (R33). -/
def State.Called (s : State) (c : ChannelNo) (k : PositionNo) : Prop :=
  ∃ timer, s.channels.rd c = .awaitingReport k timer

/-- A request transaction is in flight to a position, with the frame that was sent (R26). -/
def State.Asked (s : State) (c : ChannelNo) (k : PositionNo) (sent : RiserRequest) : Prop :=
  ∃ timer, s.channels.rd c = .awaitingAnswer k sent timer

end Sys2Proof.Machine
end

