-- ==== Sys2Proof/Certificates/Slice0/Obligations.lean ====
section
/-! DEFINITION. The statements for the provers, from the numbered rules of spec/. Where a command ends with the
arbiters' choice, its statement says so by `serveChannels`; what that does is stated under "The riser channels", and
that they choose at the end of a step is log 7. The line's level that ends a report (`endReport`) is log 8. -/

open Sys2Proof Sys2Proof.Machine

/-! ### The machine -/

/-- The queue runs first in, first out: the front command's meaning on the state with the queue's rest; an empty queue
idles (log 1). -/
def Obligations.StepRunsFrontCommand : Prop :=
  (∀ (s : State) (c : Instr) (rest : List Instr), s.pending = c :: rest →
      step s = exec c { s with pending := rest })
    ∧ ∀ s : State, s.pending = [] → step s = .next s

/-- Every command, on every state, completes with a next state, and leaves the queue as it is (log 29). -/
def Obligations.EveryCommandAnswersNext : Prop :=
  ∀ (c : Instr) (s : State), ∃ t, exec c s = .next t ∧ t.pending = s.pending

/-- The starting values of section 11.3, block by block. -/
def Obligations.ResetStartsEveryBlock : Prop :=
  (∀ p, State.reset.printers.rd p = .absent)
    ∧ (∀ c, State.reset.channels.rd c = .idle)
    ∧ (∀ p kind, (State.reset.positions.rd p).marked kind = false)
    ∧ (∀ p, (State.reset.positions.rd p).endReason = none ∧ (State.reset.positions.rd p).resync = false
        ∧ (State.reset.positions.rd p).silence = none)
    ∧ (∀ t, State.reset.tenants.rd t = none) ∧ State.reset.accounts = []
    ∧ (∀ n, State.reset.jobs.rd n = ⟨0, none⟩) ∧ State.reset.freeList = List.finRange 1024
    ∧ State.reset.submission = [] ∧ (∀ t, State.reset.completions.rd t = [])
    ∧ (∀ p, State.reset.sessions.rd p = none)
    ∧ State.reset.reorders = [] ∧ State.reset.reorderCounter = 1
    ∧ State.reset.leadDays = 7 ∧ State.reset.safetyDays = 2
    ∧ (∀ n, State.reset.callouts.rd n = none) ∧ (∀ cls, State.reset.lines.get cls = false)
    ∧ (∀ n, State.reset.ports.rd n
        = ⟨if n = 0 then .facilities else .unbound, none, none, none, false, 0, 0, .idle⟩)
    ∧ State.reset.clock = ⟨0, 0⟩

/-- Every invariant of Safety.lean holds right after reset. `Quiet` holds there because the service request lines are
inactive at reset, which the spec does not state and log 24 chooses. -/
def Obligations.ResetMeetsTheInvariants : Prop :=
  State.reset.ClockInRange ∧ State.reset.PortsBound ∧ State.reset.LinesFollow ∧ State.reset.Quiet
    ∧ State.reset.SessionsServed ∧ State.reset.SlotsDerived ∧ State.reset.ReordersKept ∧ State.reset.BooksKept
    ∧ State.reset.ReservationsAgree

/-! ### Invariants that every step keeps -/

/-- Each callout line is asserted exactly while a callout of its class is OPEN, whatever command is taken (R167). -/
def Obligations.CalloutLinesFollowOpenCallouts : Prop :=
  ∀ s t : State, s.LinesFollow → step s = .next t → t.LinesFollow

/-- No step leaves an IDLE channel with a mark set or a service request active at one of its positions: the arbiter has
chosen (R25; log 7). -/
def Obligations.ArbitersLeaveNothingToChoose : Prop :=
  ∀ s t : State, s.Quiet → step s = .next t → t.Quiet

/-- Port 0 alone stays FACILITIES, one port at most stays SUPPLIES, and a tenant's ports are bound only while the
tenant is DEFINED (R45, R172, R185). The clock's reading stays in its ranges (R188). -/
def Obligations.PortRolesAndClockStayInRange : Prop :=
  (
    ∀ s t : State, s.PortsBound → step s = .next t → t.PortsBound)
  ∧ (
    ∀ s t : State, s.ClockInRange → step s = .next t → t.ClockInRange)

/-- Level percent and days to empty follow the other fields of every slot, and remaining doses lie within the capacity,
after every step (R119). -/
def Obligations.SlotsStayDerived : Prop :=
  ∀ s t : State, s.SlotsDerived → step s = .next t → t.SlotsDerived

/-- Reorder numbers stay distinct, and every slot keeps at most one open and one closed record (R136). -/
def Obligations.ReordersStayKept : Prop :=
  ∀ s t : State, s.SlotsDerived → s.ReordersKept → step s = .next t → t.ReordersKept

/-- A session stands only at an IN_SERVICE printer whose sharing gives its tenant access, after every step (R16, R18,
R45, R79). -/
def Obligations.SessionsStandOnlyAtServingPrinters : Prop :=
  ∀ s t : State, s.SessionsServed → step s = .next t → t.SessionsServed

/-- The bookkeeping of jobs, accounts and sessions is kept by every step: the pool's lists, the active-job links,
ownership, the counts, the sessions and their release lists (R59, R62, R63, R68, R76, R79). -/
def Obligations.BooksStayKept : Prop :=
  ∀ s t : State, s.BooksKept → step s = .next t → t.BooksKept

/-- An account's reserved stays the sum over its jobs, and a pool's reserved the sum over its accounts (R40, R101). -/
def Obligations.ReservationsStayAgreed : Prop :=
  ∀ s t : State, s.BooksKept → s.ReservationsAgree → step s = .next t → t.ReservationsAgree

/-! ### Tower links: receiving requests -/

/-- A request that is refused changes no record: the port holds the request and its refusal, and nothing else has
changed (R174, R175, R177). The premise `Quiet` is kept by every step. -/
def Obligations.RefusedRequestChangesNoRecord : Prop :=
  ∀ (r : Request) (port : PortNo) (tag : Byte) (body : List Byte) (s t : State) (reason : Reason) (b : List Byte),
    s.Quiet → (s.ports.rd port).outstanding = none → (s.ports.rd port).answer = none →
    exec (r.command port tag body) s = .next t →
    (t.ports.rd port).answer = some ⟨r.code, tag, .refused reason, b⟩ →
    t = (s.begun port r tag).replied port r tag (.refused reason) []

/-- A request that the port's role may not make is refused NOT PERMITTED, whatever its body holds (R174 step 4, Table
10.3). The roles of each request are those of Table 10.3, by its rows. -/
def Obligations.RoleIsCheckedBeforeTheBody : Prop :=
  (∀ (r : Request) (port : PortNo) (tag : Byte) (body : List Byte) (s : State),
      s.Quiet → (s.ports.rd port).outstanding = none → body.length ≤ 120 →
      permits r (s.ports.rd port).role = false → ¬ selfReset port r body →
      exec (r.command port tag body) s
        = .next ((s.begun port r tag).replied port r tag (.refused .notPermitted) []))
    ∧ (∀ r t, (permits r .facilities = true ↔ r ∉ [.createAccount, .amendAccount, .removeAccount, .queryAccount,
          .renewPeriod, .submitJob, .withdraw, .takeCompletions, .takeOrders, .confirmOrder, .cancelOrder,
          .setLeadTime])
        ∧ (permits r (.tenant t) = true ↔ r ∈ [.createAccount, .amendAccount, .removeAccount, .queryAccount,
          .renewPeriod, .submitJob, .withdraw, .takeCompletions, .queryPrinter, .queryTenant, .queryJob,
          .readAttention, .clearAttention, .setMask])
        ∧ (permits r .supplies = true ↔ r ∈ [.takeOrders, .confirmOrder, .cancelOrder, .setLeadTime, .querySlot,
          .queryOrder, .readAttention, .clearAttention, .setMask])
        ∧ (permits r .unbound = true ↔ r = .readAttention))

/-- OVERLAP: a request frame on a port with an outstanding request, of any code, changes nothing but the overlap slot,
which takes the refusal when it is empty; with the slot full the frame is discarded (R174 step 1, R176). UNKNOWN
REQUEST: a code outside Table 12.4 is refused with its code mirrored, from every role. TOWER FRAME DISCARDED: bytes
that hold no frame received whole, and frames of another kind than REQUEST, change nothing; the bytes of a request
frame are that request (R173, R174 step 3; log 2). -/
def Obligations.UntakenFramesChangeNoRecord : Prop :=
  (
    ∀ (port : PortNo) (code tag : Byte) (body : List Byte) (s : State),
      s.Quiet → (s.ports.rd port).outstanding ≠ none → body.length ≤ 120 →
      (∀ r, Request.ofCode code = some r → ¬ selfReset port r body) →
      ((s.ports.rd port).overlap = none →
        exec (.overlap port code tag body) s = .next { s with
          ports := s.ports.wr port { s.ports.rd port with overlap := some ⟨code, tag, .refused .overlap, []⟩ } })
      ∧ ((s.ports.rd port).overlap ≠ none → exec (.overlap port code tag body) s = .next s))
  ∧ (
    (∀ (port : PortNo) (code tag : Byte) (body : List Byte) (s : State),
        Request.ofCode code = none → (s.ports.rd port).outstanding = none → body.length ≤ 120 →
        exec (.unknownRequest port code tag body) s = .next { s with
          ports := s.ports.wr port { s.ports.rd port with
            outstanding := some ⟨code, tag⟩, answer := some ⟨code, tag, .refused .unknownRequest, []⟩ } })
      ∧ (∀ (port : PortNo) (bytes : List Byte) (s : State),
        (∀ f, TowerFrame.receive bytes = some f → f.kind ≠ 1) → exec (.towerFrameDiscarded port bytes) s = .next s)
      ∧ (∀ (port : PortNo) (r : Request) (tag outcome reason : Byte) (body : List Byte) (s : State),
        body.length ≤ 120 →
        exec (.towerFrameDiscarded port (TowerFrame.bytes ⟨1, r.code, tag, outcome, reason, body⟩)) s
          = exec (r.command port tag body) s))

/-- Tower link frames: what is sent is received, with anything but A5h before it, and the bytes of a request frame are
the command of its code (Tables 12.1 and 12.4, R196). -/
def Obligations.TowerFramesAreReceivedAsSent : Prop :=
  (∀ (f : TowerFrame) (noise : List Byte), f.body.length ≤ 120 → (∀ b ∈ noise, b ≠ 0xA5#8) →
      TowerFrame.receive (noise ++ f.bytes) = some f)
    ∧ (∀ f : TowerFrame, 120 < f.body.length → f.body.length < 256 → TowerFrame.receive f.bytes = none)
    ∧ (∀ r : Request, Request.ofCode r.code = some r)
    ∧ ∀ (r : Request) (port : PortNo) (tag outcome reason : Byte) (body : List Byte), body.length ≤ 120 →
      Instr.ofTowerBytes port (TowerFrame.bytes ⟨1, r.code, tag, outcome, reason, body⟩) = r.command port tag body

/-- Riser frames: what is sent is heard, from the position of the low three bits, and bytes whose check does not match
are heard from no position (Table 12.7, R29, R196). -/
def Obligations.RiserFramesAreHeardAsSent : Prop :=
  (∀ (f : RiserFrame) (noise : List Byte), f.body.length ≤ 48 → (∀ b ∈ noise, b ≠ 0xA5#8) →
      RiserFrame.receive (noise ++ f.bytes) = some f)
    ∧ (∀ f : RiserFrame, 48 < f.body.length → f.body.length < 256 → RiserFrame.receive f.bytes = none)
    ∧ (∀ (pos cls kind : Byte) (body : List Byte) (x y : Byte), body.length ≤ 48 →
      [x, y] ≠ checkBytes (riserCovered pos cls kind body) →
      RiserFrame.receive (0xA5#8 :: riserCovered pos cls kind body ++ [x, y]) = none)
    ∧ ∀ (pos cls kind : Byte) (body : List Byte), body.length ≤ 48 →
      RiserFrame.receive (0xA5#8 :: riserCovered pos cls kind body ++ checkBytes (riserCovered pos cls kind body))
        = some ⟨positionOfByte pos, cls, kind, body⟩

/-! ### Tower links: transmitter, ports, attention -/

/-- An idle transmitter begins the answer, else the OVERLAP answer, else the attention frame, whose slot it clears and
which it drops when the masked set is empty; a frame sent whole empties its slot, and an answer sent whole clears the
outstanding request (R175, R176, R179, R181). -/
def Obligations.TransmitterSendsInOrder : Prop :=
  ∀ (port : PortNo) (s : State) (p : Port), s.ports.rd port = p →
    (p.transmitter = .idle →
      (∀ a, p.answer = some a → exec (.transmitterBegin port) s = .next { s with
        ports := s.ports.wr port { p with transmitter := .answer a } })
      ∧ (∀ a, p.answer = none → p.overlap = some a → exec (.transmitterBegin port) s = .next { s with
        ports := s.ports.wr port { p with transmitter := .overlap a } })
      ∧ (p.answer = none → p.overlap = none → p.attention = true → p.raw &&& p.mask ≠ 0 →
        exec (.transmitterBegin port) s = .next { s with
          ports := s.ports.wr port { p with attention := false, transmitter := .attention (p.raw &&& p.mask) } })
      ∧ (p.answer = none → p.overlap = none → p.attention = true → p.raw &&& p.mask = 0 →
        exec (.transmitterBegin port) s = .next { s with ports := s.ports.wr port { p with attention := false } }))
    ∧ (∀ a, p.transmitter = .answer a → exec (.frameSentWhole port) s = .next { s with
        ports := s.ports.wr port { p with transmitter := .idle, answer := none, outstanding := none } })
    ∧ (∀ a, p.transmitter = .overlap a → exec (.frameSentWhole port) s = .next { s with
        ports := s.ports.wr port { p with transmitter := .idle, overlap := none } })
    ∧ (∀ m, p.transmitter = .attention m → exec (.frameSentWhole port) s = .next { s with
        ports := s.ports.wr port { p with transmitter := .idle } })

/-- RESET PORT: the frame in transmission is cut, the slots are emptied, the outstanding request is cleared, and
pending classes queue an attention frame; on port 0 the requester of every ENROLLING record is cleared too, and the
request then stands as port 0's own. BIND PORT: the same, with the sets emptied and the new role (R174, R184, R185). -/
def Obligations.PortsAreResetAndBound : Prop :=
  (∀ (s : State) (tag : Byte) (body : List Byte) (n : PortNo),
      s.Ready 0 .resetPort body → body.length = 1 → u8 body 0 = n.val → n ≠ 0 →
      exec (.resetPort 0 tag body) s = .next (((s.begun 0 .resetPort tag).setPort n
        { s.ports.rd n with
          outstanding := none, answer := none, overlap := none, transmitter := .idle,
          attention := decide ((s.ports.rd n).raw &&& (s.ports.rd n).mask ≠ 0) }).acceptedWith 0 .resetPort tag []))
    ∧ (∀ (s : State) (tag : Byte), ∃ t, exec (.resetPort 0 tag [0]) s = .next t
      ∧ t = { s with ports := t.ports, printers := t.printers }
      ∧ t.ports = s.ports.wr 0 { s.ports.rd 0 with
          outstanding := some ⟨0x71, tag⟩, answer := some ⟨0x71, tag, .accepted, []⟩, overlap := none,
          transmitter := .idle, attention := decide ((s.ports.rd 0).raw &&& (s.ports.rd 0).mask ≠ 0) }
      ∧ (∀ p sh who, s.printers.rd p = .enrolling sh who → t.printers.rd p = .enrolling sh none)
      ∧ (∀ p, (∀ sh who, s.printers.rd p ≠ .enrolling sh who) → t.printers.rd p = s.printers.rd p))
    ∧ (∀ (s : State) (tag : Byte) (body : List Byte) (n : PortNo) (role : Role),
      s.Ready 0 .bindPort body → u8 body 0 = n.val → n ≠ 0 →
      (role = .unbound ∧ body.length = 2 ∧ u8 body 1 = 3
        ∨ (role = .supplies ∧ body.length = 2 ∧ u8 body 1 = 2
            ∧ ∀ m, m ≠ n → (s.ports.rd m).role ≠ .supplies)
        ∨ ∃ t, role = .tenant t ∧ body.length = 3 ∧ u8 body 1 = 1 ∧ u8 body 2 = t.val + 1
            ∧ (s.tenants.rd t).isSome = true) →
      exec (.bindPort 0 tag body) s = .next (((s.begun 0 .bindPort tag).setPort n
        ⟨role, none, none, none, false, 0, 0, .idle⟩).acceptedWith 0 .bindPort tag []))

/-- CLEAR ATTENTION takes the named classes out of the raw set; SET MASK replaces the mask whole and sets the attention
slot when the masked set becomes nonempty; both refuse a set that names no class; an event is added to the raw set of
every port entitled to it, by the same rule, and nothing else changes (R180, R181, R183). -/
def Obligations.AttentionIsClearedMaskedAndRaised : Prop :=
  (∀ (s : State) (port : PortNo) (tag : Byte) (body : List Byte),
      s.Ready port .clearAttention body → body.length = 2 → u16 body 0 < 4096 →
      exec (.clearAttention port tag body) s = .next ((s.begun port .clearAttention tag).setPort port
        { s.ports.rd port with
          outstanding := some ⟨0x74, tag⟩
          raw := (s.ports.rd port).raw &&& ~~~ BitVec.ofNat 12 (u16 body 0)
          answer := some ⟨0x74, tag, .accepted,
            be2 ((s.ports.rd port).raw &&& ~~~ BitVec.ofNat 12 (u16 body 0)).toNat⟩ }))
    ∧ (∀ (s : State) (port : PortNo) (tag : Byte) (body : List Byte),
      s.Ready port .setMask body → body.length = 2 → u16 body 0 < 4096 →
      exec (.setMask port tag body) s = .next (s.setPort port
        { s.ports.rd port with
          outstanding := some ⟨0x75, tag⟩
          mask := BitVec.ofNat 12 (u16 body 0)
          attention := (s.ports.rd port).attention
            || (decide ((s.ports.rd port).raw &&& (s.ports.rd port).mask = 0)
              && decide ((s.ports.rd port).raw &&& BitVec.ofNat 12 (u16 body 0) ≠ 0))
          answer := some ⟨0x75, tag, .accepted, be2 (u16 body 0)
            ++ be2 ((s.ports.rd port).raw &&& BitVec.ofNat 12 (u16 body 0)).toNat⟩ }))
    ∧ (∀ (s : State) (port : PortNo) (tag : Byte) (body : List Byte), body.length = 2 → 4096 ≤ u16 body 0 →
      (s.Ready port .clearAttention body → exec (.clearAttention port tag body) s
        = .next ((s.begun port .clearAttention tag).replied port .clearAttention tag (.refused .malformed) []))
      ∧ (s.Ready port .setMask body → exec (.setMask port tag body) s
        = .next ((s.begun port .setMask tag).replied port .setMask tag (.refused .malformed) [])))
    ∧ ∀ (s : State) (a : Attention) (entitled : Role → Bool),
      (∀ n, ((s.raise a entitled).ports.rd n) =
        if entitled (s.ports.rd n).role then
          { s.ports.rd n with
            raw := (s.ports.rd n).raw ||| a.set
            attention := (s.ports.rd n).attention
              || (decide ((s.ports.rd n).raw &&& (s.ports.rd n).mask = 0)
                && decide (((s.ports.rd n).raw ||| a.set) &&& (s.ports.rd n).mask ≠ 0)) }
        else s.ports.rd n)
      ∧ s.raise a entitled = { s with ports := (s.raise a entitled).ports }

/-! ### Queries -/

/-- QUERY PORT and READ ATTENTION answer the entry of a port as it stands and change nothing else (R182, R186). That a
tenant number, a code and a tag that do not stand are left out of QUERY PORT's answer, without a selector, is log
34. -/
def Obligations.PortQueriesReadThePort : Prop :=
  (∀ (s : State) (port n : PortNo) (tag : Byte) (body : List Byte) (p : Port),
      s.Ready port .queryPort body → body.length = 1 → u8 body 0 = n.val →
      (s.begun port .queryPort tag).ports.rd n = p →
      exec (.queryPort port tag body) s = .next ((s.begun port .queryPort tag).acceptedWith port .queryPort tag
        (roleBytes p.role ++ (match p.outstanding with | some o => [1, o.code, o.tag] | none => [0])
          ++ flagByte p.answer.isSome ++ flagByte p.overlap.isSome ++ flagByte p.attention
          ++ be2 p.raw.toNat ++ be2 p.mask.toNat)))
    ∧ (∀ (s : State) (port : PortNo) (tag : Byte) (p : Port),
      s.Ready port .readAttention [] → s.ports.rd port = p →
      exec (.readAttention port tag []) s = .next ((s.begun port .readAttention tag).acceptedWith port
        .readAttention tag (be1 port.val ++ roleBytes p.role ++ be2 p.raw.toNat ++ be2 p.mask.toNat
          ++ be2 (p.raw &&& p.mask).toNat)))
    ∧ roleBytes .facilities = [0] ∧ roleBytes .supplies = [2] ∧ roleBytes .unbound = [3]
    ∧ ∀ t : TenantNo, roleBytes (.tenant t) = [1, byteOf (t.val + 1)]

/-- QUERY PRINTER: the facilities port reads the whole record, by service state; a tenant port reads what its access
allows, and no more than whether a job is active; a tenant without access is refused NO SUCH (R20). The order and the
selectors of the fields are those of the model (log 17). QUERY TENANT: every field of a DEFINED tenant to the
facilities port and to the tenant's own ports, the state alone for an ABSENT one; any other tenant is NO SUCH to a
tenant port (R44). The order and the selectors of the fields are those of the model (log 17, log 22). -/
def Obligations.PrinterAndTenantAreReadByRole : Prop :=
  (
    ∀ (s : State) (port : PortNo) (tag : Byte) (body : List Byte) (p : PrinterNo),
      s.Ready port .queryPrinter body → body.length = 1 → u8 body 0 = p.val →
      ((s.ports.rd port).role = .facilities →
        (s.printers.rd p = .absent → exec (.queryPrinter port tag body) s
          = .next ((s.begun port .queryPrinter tag).acceptedWith port .queryPrinter tag [byteOf p.val, 0]))
        ∧ (∀ sh who, s.printers.rd p = .enrolling sh who → exec (.queryPrinter port tag body) s
          = .next ((s.begun port .queryPrinter tag).acceptedWith port .queryPrinter tag
            ([byteOf p.val, 1] ++ sharingBytes sh)))
        ∧ (∀ e, s.printers.rd p = .enrolled e → exec (.queryPrinter port tag body) s
          = .next ((s.begun port .queryPrinter tag).acceptedWith port .queryPrinter tag
            ([byteOf p.val, match e.service with | .inService => 2 | .draining => 3 | .disabled => 4]
              ++ (sharingBytes e.sharing ++ capabilityByte e.descriptor ++ be1 e.descriptor.floorPercent
              ++ be3 e.descriptor.answerTime ++ be3 e.descriptor.window ++ be3 e.descriptor.startLimit
              ++ be3 e.descriptor.suspendLimit ++ be3 e.descriptor.grace.user ++ be3 e.descriptor.grace.supply
              ++ be3 e.descriptor.grace.service ++ [e.codes.user, e.codes.supply, e.codes.service]
              ++ optField 3 be3 e.grace.user ++ optField 3 be3 e.grace.supply ++ optField 3 be3 e.grace.service
              ++ (optField 2 handleBytes e.activeJob
                ++ optField 1 (fun j : Job => tenantByte j.owner.tenant) (e.activeJob.bind s.job)
                ++ optField 1 (fun j : Job => be1 j.state.code) (e.activeJob.bind s.job))
              ++ be1 (sessionState (s.sessions.rd p)).code
              ++ runField (fun x : Slot => be1 x.kind.code ++ be3 x.capacity ++ be1 x.level ++ be2 x.daysToEmpty
                  ++ flagByte x.present) e.slots)))))
      ∧ (∀ t, (s.ports.rd port).role = .tenant t →
        (∀ e, s.printers.rd p = .enrolled e → e.sharing.gives t = true → exec (.queryPrinter port tag body) s
          = .next ((s.begun port .queryPrinter tag).acceptedWith port .queryPrinter tag
            ([byteOf p.val, match e.service with | .inService => 2 | .draining => 3 | .disabled => 4]
              ++ capabilityByte e.descriptor ++ [e.codes.user, e.codes.supply, e.codes.service]
              ++ flagByte e.activeJob.isSome)))
        ∧ ((∀ e, s.printers.rd p = .enrolled e → e.sharing.gives t = false) → exec (.queryPrinter port tag body) s
          = .next ((s.begun port .queryPrinter tag).replied port .queryPrinter tag (.refused .noSuch) []))))
  ∧ (
    ∀ (s : State) (port : PortNo) (tag : Byte) (body : List Byte) (t : TenantNo),
      s.Ready port .queryTenant body → body.length = 1 → u8 body 0 = t.val + 1 →
      ((s.ports.rd port).role = .facilities ∨ (s.ports.rd port).role = .tenant t →
        (∀ x, s.tenants.rd t = some x → exec (.queryTenant port tag body) s
          = .next ((s.begun port .queryTenant tag).acceptedWith port .queryTenant tag
            (optField 3 be3 x.poolAllowance ++ be3 x.poolCharged ++ be3 x.poolReserved ++ flagByte x.poolExhausted
              ++ be3 (match x.poolAllowance with | some a => x.poolCharged - a | none => 0)
              ++ optField 3 be3 x.defaultAllowance ++ be1 x.tariff.mono ++ be1 x.tariff.colour
              ++ be1 x.tariff.largeMono ++ be1 x.tariff.largeColour ++ be1 x.holdHours ++ be2 x.jobLimit
              ++ be2 x.liveJobs ++ be2 x.accountLimit ++ be2 x.accountCount)))
        ∧ (s.tenants.rd t = none → exec (.queryTenant port tag body) s
          = .next ((s.begun port .queryTenant tag).acceptedWith port .queryTenant tag [0])))
      ∧ (∀ u, u ≠ t → (s.ports.rd port).role = .tenant u → exec (.queryTenant port tag body) s
          = .next ((s.begun port .queryTenant tag).replied port .queryTenant tag (.refused .noSuch) [])))

/-- QUERY ACCOUNT: the named account, or the tenant's account with the lowest number at or above the named one, every
field of it; NO SUCH when there is none. An account of another tenant is never read (R50, R55). The order and the
selectors of the fields are those of the model (log 17). QUERY JOB: every field of the job that a current handle names,
or of the tenant's live record with a tag; a tenant port reads its own jobs alone; the answer then tells by a flag
whether the handle stands in a release list, with its printer where it does, and by a flag whether it stands in an
eligible list (R61, R75). The order and the selectors of the fields are those of the model (log 17, log 34). -/
def Obligations.AccountAndJobAreReadByTheirTenant : Prop :=
  (
    ∀ (s : State) (port : PortNo) (tag : Byte) (body : List Byte) (t : TenantNo),
      s.Ready port .queryAccount body → (s.ports.rd port).role = .tenant t → body.length = 3 → u16 body 0 ≠ 0 →
      (s.accounts.map (·.key)).Nodup →
      (∀ a ∈ s.accounts, (u8 body 2 = 0 ∧ a.key = ⟨t, u16 body 0⟩
          ∨ u8 body 2 = 1 ∧ a.key.tenant = t ∧ u16 body 0 ≤ a.key.number
            ∧ ∀ b ∈ s.accounts, b.key.tenant = t → u16 body 0 ≤ b.key.number → a.key.number ≤ b.key.number) →
        exec (.queryAccount port tag body) s
          = .next ((s.begun port .queryAccount tag).acceptedWith port .queryAccount tag
            (be2 a.key.number ++ optField 4 be4 a.credential ++ optField 3 be3 a.allowance ++ be3 a.charged
              ++ be3 a.reserved ++ be3 (match a.allowance with | some x => a.charged - x | none => 0)
              ++ flagByte a.allowance.isNone ++ flagByte a.barred ++ flagByte a.exhausted ++ be2 a.heldJobs
              ++ optField 1 (fun p : PrinterNo => be1 p.val) a.session)))
      ∧ ((u8 body 2 = 0 ∧ (∀ a ∈ s.accounts, a.key ≠ ⟨t, u16 body 0⟩)
          ∨ u8 body 2 = 1 ∧ (∀ a ∈ s.accounts, a.key.tenant = t → a.key.number < u16 body 0)) →
        exec (.queryAccount port tag body) s
          = .next ((s.begun port .queryAccount tag).replied port .queryAccount tag (.refused .noSuch) [])))
  ∧ (
    ∀ (s : State) (port : PortNo) (tag : Byte) (body : List Byte) (h : Handle) (j : Job),
      s.Ready port .queryJob body → s.job h = some j →
      ((u8 body 0 = 0 ∧ body.length = 3 ∧ handleAt body 1 = h
          ∧ ((s.ports.rd port).role = .facilities ∨ (s.ports.rd port).role = .tenant j.owner.tenant))
        ∨ (u8 body 0 = 1 ∧ u16 body 1 = j.tag
          ∧ (∀ m i, s.jobAt m = some i → i.owner.tenant = j.owner.tenant → i.tag = j.tag → m = h.record)
          ∧ ((s.ports.rd port).role = .facilities ∧ body.length = 4 ∧ u8 body 3 = j.owner.tenant.val + 1
            ∨ (s.ports.rd port).role = .tenant j.owner.tenant ∧ body.length = 3)) →
        exec (.queryJob port tag body) s = .next ((s.begun port .queryJob tag).acceptedWith port .queryJob tag
          (handleBytes h ++ tenantByte j.owner.tenant ++ be2 j.owner.number ++ be2 j.tag ++ be4 j.spool
            ++ be2 j.declaredMono ++ be2 j.declaredColour ++ flagByte j.large
            ++ optField 1 (fun p : PrinterNo => be1 p.val) j.preferred
            ++ (match j.state with
                | .held => [0] | .granted .. => [1] | .printing .. => [2] | .suspended .. => [3] | .complete .. => [4])
            ++ (match j.state with
                | .complete _ _ => []
                | .held => be2 j.holdMinutes
                | .granted p cam _ => be2 j.holdMinutes ++ be1 p.val ++ flagByte cam
                | .printing p cam => be2 j.holdMinutes ++ be1 p.val ++ flagByte cam
                | .suspended p cam _ => be2 j.holdMinutes ++ be1 p.val ++ flagByte cam)
            ++ be2 j.doneMono ++ be2 j.doneColour ++ be3 (j.doneMono + j.doneColour) ++ be3 j.reserved
            ++ be3 j.charged
            ++ (match j.state with
                | .held => []
                | .printing _ _ => []
                | .granted _ _ timer => optField 3 be3 timer
                | .suspended _ _ timer => be3 timer
                | .complete outcome at_ =>
                  (match outcome with | .done => [1] | .cancelled => [2] | .expired => [3]) ++ clockBytes at_)
            ++ (match s.releasePrinter h with | some p => [1, byteOf p.val] | none => [0])
            ++ flagByte (s.inEligible h))))
      ∧ (∀ t, t ≠ j.owner.tenant → (s.ports.rd port).role = .tenant t → u8 body 0 = 0 → body.length = 3 →
        handleAt body 1 = h → exec (.queryJob port tag body) s
          = .next ((s.begun port .queryJob tag).replied port .queryJob tag (.refused .noSuch) [])))

/-- QUERY SLOT answers every field of the slot record, the floor percent, whether the slot's empty code is held, and
the slot's open reorder; QUERY ORDER answers a reorder, by its number or the next at or above it, with the slot's level
and days to empty and the two settings (R134, R144, R147). The order and the selectors of the fields are those of the
model (log 16, log 17, log 21). QUERY CALLOUTS answers the records at or above the named number, in number order, at
most 5, each with the class's current code and the seconds on its grace timer, and where to go on from when there are
more (R169). The order and the selectors of the fields are those of the model (log 17, log 22). -/
def Obligations.SlotsReordersAndCalloutsAreRead : Prop :=
  (
    (∀ (s : State) (port : PortNo) (tag : Byte) (body : List Byte) (p : PrinterNo) (i : Nat) (e : Enrolled) (x : Slot)
        (r : Option Reorder),
        s.Ready port .querySlot body → body.length = 2 → u8 body 0 = p.val → u8 body 1 = i → i < 5 →
        s.printers.rd p = .enrolled e → e.slots[i]? = some x → s.openReorder p i = r →
        exec (.querySlot port tag body) s = .next ((s.begun port .querySlot tag).acceptedWith port .querySlot tag
          (be1 p.val ++ be1 i ++ (be1 x.kind.code ++ be3 x.overhead ++ be3 x.capacity ++ be3 x.remaining ++ be3 x.today
            ++ be3 x.rate ++ flagByte x.seeded ++ be2 x.daysToEmpty ++ be1 x.level ++ be4 x.identity
            ++ flagByte x.present) ++ be1 e.descriptor.floorPercent ++ flagByte (decide (e.codes.supply.toNat = i + 1))
            ++ (optField 2 (fun r : Reorder => be2 r.number) r ++ optField 1 (fun r : Reorder => be1 r.urgency.code) r
            ++ optField 1 (fun r : Reorder => be1 r.state.code) r ++ optField 2 be2 (r.bind (·.expectedDay))))))
      ∧ (∀ (s : State) (port : PortNo) (tag : Byte) (body : List Byte) (r : Reorder) (x : Option Slot),
        s.Ready port .queryOrder body → body.length = 3 → u16 body 0 ≠ 0 → r ∈ s.reorders →
        (s.reorders.map (·.number)).Nodup →
        (u8 body 2 = 0 ∧ r.number = u16 body 0
          ∨ u8 body 2 = 1 ∧ u16 body 0 ≤ r.number ∧ ∀ q ∈ s.reorders, u16 body 0 ≤ q.number → r.number ≤ q.number) →
        s.slot r.printer r.slot = x →
        exec (.queryOrder port tag body) s = .next ((s.begun port .queryOrder tag).acceptedWith port .queryOrder tag
          (be2 r.number ++ be1 r.printer.val ++ be1 r.slot ++ be1 r.kind.code ++ be1 r.urgency.code ++ be1 r.state.code
            ++ clockBytes r.raisedAt ++ be1 r.level ++ optField 4 be4 r.orderRef ++ optField 2 be2 r.expectedDay
            ++ optField 1 (fun x : Slot => be1 x.level) x ++ optField 2 (fun x : Slot => be2 x.daysToEmpty) x
            ++ be1 s.leadDays ++ be1 s.safetyDays))))
  ∧ (
    ∀ (s : State) (port : PortNo) (tag : Byte) (body : List Byte) (l : List (CalloutNo × Callout)),
      s.Ready port .queryCallouts body → body.length = 2 → u16 body 0 < 192 →
      (l.map (·.1)).Pairwise (· < ·) →
      (∀ n x, (n, x) ∈ l ↔ u16 body 0 ≤ n.val ∧ s.callouts.rd n = some x) →
      exec (.queryCallouts port tag body) s
        = .next ((s.begun port .queryCallouts tag).acceptedWith port .queryCallouts tag
          (runField (fun y : CalloutNo × Callout =>
              be2 y.1.val ++ be1 (y.1.val / 3) ++ be1 (y.1.val % 3 + 1) ++ [y.2.code] ++ clockBytes y.2.openedAt
                ++ be1 y.2.state.code ++ be1 y.2.reopenCount ++ optField 2 be2 y.2.reorder
                ++ optField 2 handleBytes y.2.job
                ++ [((s.enrolled (calloutPrinter y.1)).map (·.codes.get (calloutClass y.1))).getD 0]
                ++ optField 3 be3 ((s.enrolled (calloutPrinter y.1)).bind (·.grace.get (calloutClass y.1))))
            (l.take 5)
            ++ optField 2 be2 (if l.length ≤ 5 then none else (l[4]?).map fun y => y.1.val + 1))))

/-! ### Enrolment and the printer requests -/

/-- ENROL PRINTER: the record becomes ENROLLING with the sharing and the requester, a DESCRIBE mark is set, and no
answer is given yet; a tenant not DEFINED is NO SUCH, a record not ABSENT is WRONG STATE, and the sharing field is read
by its code (R13, Table 12.4). The arbiters' choice at the end of a step is log 7's. -/
def Obligations.EnrolmentBegins : Prop :=
  (∀ (s : State) (port : PortNo) (tag : Byte) (body : List Byte) (c : ChannelNo) (k : PositionNo) (sh : Sharing),
      s.Ready port .enrolPrinter body → body.length = 5 → u8 body 0 = c.val → u8 body 1 = k.val →
      sharingAt body 2 = some sh →
      ((∀ t ∈ sh.named, (s.tenants.rd t).isSome = true) → s.printers.rd (printerAt c k) = .absent →
        exec (.enrolPrinter port tag body) s = .next (State.serveChannels { s.begun port .enrolPrinter tag with
          printers := s.printers.wr (printerAt c k) (.enrolling sh (some (port, tag)))
          positions := s.positions.wr (printerAt c k) { s.positions.rd (printerAt c k) with describe := true } }))
      ∧ ((∀ t ∈ sh.named, (s.tenants.rd t).isSome = true) → s.printers.rd (printerAt c k) ≠ .absent →
        exec (.enrolPrinter port tag body) s = .next (State.serveChannels
          ((s.begun port .enrolPrinter tag).replied port .enrolPrinter tag (.refused .wrongState) [])))
      ∧ ((∃ t ∈ sh.named, s.tenants.rd t = none) →
        exec (.enrolPrinter port tag body) s = .next (State.serveChannels
          ((s.begun port .enrolPrinter tag).replied port .enrolPrinter tag (.refused .noSuch) []))))
    ∧ (∀ (b : List Byte) (i : Nat) (t : TenantNo), u8 b i = 0 → u16 b (i + 1) = 2 ^ t.val →
      sharingAt b i = some (.dedicated t))
    ∧ (∀ (b : List Byte) (i : Nat), u8 b i = 1 → sharingAt b i = some (.shared (BitVec.ofNat 16 (u16 b (i + 1)))))
    ∧ (∀ t u, (Sharing.dedicated u).gives t = true ↔ t = u)
    ∧ ∀ set t, (Sharing.shared set).gives t = set.getLsbD t.val

/-- The DESCRIBE answer: with a valid descriptor the printer is IN_SERVICE, clear and full, its silence timer starts,
and the requester that still waits is answered ENROLLED; with an invalid one the record is ABSENT again and the
requester is answered ENROL FAILED, BAD DESCRIPTOR. The channel is IDLE in both (R12, R13, R15, R27, R31). The
arbiters' choice at the end of a step is log 7's. -/
def Obligations.EnrolmentEnds : Prop :=
  ∀ (s : State) (c : ChannelNo) (k : PositionNo) (body : List Byte) (sh : Sharing) (port : PortNo) (tag : Byte),
    s.Asked c k .describe → s.printers.rd (printerAt c k) = .enrolling sh (some (port, tag)) → body.length ≤ 48 →
    (descriptorValid body = true →
      ((s.ports.rd port).outstanding = some ⟨0x10, tag⟩ →
        exec (.describeAnswer c k body) s = .next (State.serveChannels { s with
          channels := s.channels.wr c .idle
          printers := s.printers.wr (printerAt c k) (.enrolled
            ⟨.inService, sh, descriptorOf body, ⟨0, 0, 0⟩, ⟨none, none, none⟩, none, slotsOf body⟩)
          positions := s.positions.wr (printerAt c k) { s.positions.rd (printerAt c k) with silence := some 20 }
          ports := s.ports.wr port { s.ports.rd port with answer := some ⟨0x10, tag, .enrolled,
            be1 (printerAt c k).val ++ capabilityByte (descriptorOf body)
              ++ runField (fun x : Slot => be1 x.kind.code ++ be3 x.capacity) (slotsOf body)⟩ } }))
      ∧ ((s.ports.rd port).outstanding ≠ some ⟨0x10, tag⟩ →
        exec (.describeAnswer c k body) s = .next (State.serveChannels { s with
          channels := s.channels.wr c .idle
          printers := s.printers.wr (printerAt c k) (.enrolled
            ⟨.inService, sh, descriptorOf body, ⟨0, 0, 0⟩, ⟨none, none, none⟩, none, slotsOf body⟩)
          positions := s.positions.wr (printerAt c k)
            { s.positions.rd (printerAt c k) with silence := some 20 } })))
    ∧ (descriptorValid body = false →
      ((s.ports.rd port).outstanding = some ⟨0x10, tag⟩ →
        exec (.describeAnswer c k body) s = .next (State.serveChannels { s with
          channels := s.channels.wr c .idle
          printers := s.printers.wr (printerAt c k) .absent
          ports := s.ports.wr port { s.ports.rd port with answer := some ⟨0x10, tag, .enrolFailed .badDescriptor, []⟩ } }))
      ∧ ((s.ports.rd port).outstanding ≠ some ⟨0x10, tag⟩ →
        exec (.describeAnswer c k body) s = .next (State.serveChannels { s with
          channels := s.channels.wr c .idle, printers := s.printers.wr (printerAt c k) .absent })))

/-- The descriptor: duration codes by their unit, count and stretch, whatever the bits above them; the answer code; the
release window; the clamped floor percent; the capability bits; what makes a descriptor valid; and a full, fresh slot
record from each slot entry (R8 to R12). -/
def Obligations.DescriptorDecodes : Prop :=
  (∀ u c st z : Nat, u < 4 → c < 32 → st < 8 →
      durationLimit (u + 4 * c + 128 * st + 1024 * z)
        = (c + 1) * (if u = 0 then 1 else if u = 1 then 8 else if u = 2 then 64 else 512) * (st + 1))
    ∧ (∀ d : List Byte,
      (descriptorOf d).grace = ⟨durationLimit (u16 d 19), durationLimit (u16 d 21), durationLimit (u16 d 23)⟩
      ∧ (descriptorOf d).startLimit = durationLimit (u16 d 26)
      ∧ (descriptorOf d).suspendLimit = durationLimit (u16 d 28)
      ∧ (descriptorOf d).window = (u16 d 26 / 1024 + 1) * 10
      ∧ (descriptorOf d).floorPercent = max 1 (min (u8 d 3) 50)
      ∧ (∀ u c z, u < 4 → c < 16 → u8 d 25 = u + 4 * c + 64 * z → (descriptorOf d).answerTime
          = (c + 1) * (if u = 0 then 10 else if u = 1 then 100 else if u = 2 then 1000 else 4000))
      ∧ (descriptorOf d).colour = (u8 d 1).testBit 0 ∧ (descriptorOf d).large = (u8 d 1).testBit 1
      ∧ (descriptorOf d).duplex = (u8 d 1).testBit 2 ∧ (descriptorOf d).resumable = (u8 d 1).testBit 3
      ∧ (descriptorOf d).swapKeepsJob = (u8 d 1).testBit 4)
    ∧ (∀ d : List Byte, descriptorValid d = true ↔
      d.length = 32 ∧ u8 d 0 = 1 ∧ 1 ≤ u8 d 2 ∧ u8 d 2 ≤ 5 ∧ u8 d 30 = 0 ∧ u8 d 31 = 0
        ∧ ∀ i, i < u8 d 2 → u8 d (4 + 3 * i) % 4 ≠ 3 ∧ u16 d (5 + 3 * i) ≠ 0)
    ∧ (∀ (d : List Byte) (i : Nat), i < u8 d 2 → ∃ x, (slotsOf d)[i]? = some x
      ∧ x.capacity = min (u16 d (5 + 3 * i)) 1000 * 5000 ∧ x.remaining = x.capacity
      ∧ x.overhead = u8 d (4 + 3 * i) / 16
      ∧ (u8 d (4 + 3 * i) % 4 = 0 → x.kind = .blackToner) ∧ (u8 d (4 + 3 * i) % 4 = 1 → x.kind = .colourToner)
      ∧ (u8 d (4 + 3 * i) % 4 = 2 → x.kind = .imagingUnit)
      ∧ x.today = 0 ∧ x.rate = 0 ∧ x.seeded = false ∧ x.daysToEmpty = 999 ∧ x.level = 100 ∧ x.identity = 0
      ∧ x.present = true)
    ∧ ∀ d : List Byte, (slotsOf d).length = u8 d 2

/-- DISABLE PRINTER: an IN_SERVICE printer becomes DISABLED, or DRAINING with an active job, and its session ends; in
DRAINING and DISABLED nothing changes. ENABLE PRINTER: IN_SERVICE from all three. Both refuse a printer that is not
enrolled, WRONG STATE (R16, R17). The arbiters' choice at the end of a step is log 7's. -/
def Obligations.PrintersAreDisabledAndEnabled : Prop :=
  ∀ (s : State) (port : PortNo) (tag : Byte) (body : List Byte) (p : PrinterNo), body.length = 1 → u8 body 0 = p.val →
    (s.Ready port .disablePrinter body →
      (∀ e, s.printers.rd p = .enrolled e → e.service = .inService → exec (.disablePrinter port tag body) s
        = .next (State.serveChannels ((State.endSession { s.begun port .disablePrinter tag with
            printers := s.printers.wr p (.enrolled { e with
              service := if e.activeJob = none then .disabled else .draining }) } p .outOfService).acceptedWith
            port .disablePrinter tag [])))
      ∧ (∀ e, s.printers.rd p = .enrolled e → e.service ≠ .inService → exec (.disablePrinter port tag body) s
        = .next (State.serveChannels
          ((s.begun port .disablePrinter tag).acceptedWith port .disablePrinter tag [])))
      ∧ (s.enrolled p = none → exec (.disablePrinter port tag body) s = .next (State.serveChannels
          ((s.begun port .disablePrinter tag).replied port .disablePrinter tag (.refused .wrongState) []))))
    ∧ (s.Ready port .enablePrinter body →
      (∀ e, s.printers.rd p = .enrolled e → exec (.enablePrinter port tag body) s
        = .next (State.acceptedWith { s.begun port .enablePrinter tag with
            printers := s.printers.wr p (.enrolled { e with service := .inService }) } port .enablePrinter tag []))
      ∧ (s.enrolled p = none → exec (.enablePrinter port tag body) s
        = .next ((s.begun port .enablePrinter tag).replied port .enablePrinter tag (.refused .wrongState) [])))

/-- REMOVE PRINTER, of a DISABLED printer alone: the record is ABSENT, the position's marks, RESYNC flag and silence
timer are cleared, its callouts are freed and the lines follow, its closed reorders are freed and its open ones
CANCELLED, with ORDER CLOSED if there were any (R19, R142). SET SHARING: the new sharing replaces the old one, and a
session of a tenant without access ends with reason NO ACCESS; the service state and the active job stay; WRONG STATE
when the printer is not enrolled, NO SUCH for a tenant not DEFINED (R18). The arbiters' choice at the end of a step is
log 7's. -/
def Obligations.PrinterIsRemovedAndShared : Prop :=
  (
    ∀ (s : State) (port : PortNo) (tag : Byte) (body : List Byte) (p : PrinterNo) (e : Enrolled),
      s.Ready port .removePrinter body → body.length = 1 → u8 body 0 = p.val → s.printers.rd p = .enrolled e →
      (e.service = .disabled → ∃ t, exec (.removePrinter port tag body) s = .next t
        ∧ t = { s with
            printers := s.printers.wr p .absent
            positions := s.positions.wr p ⟨false, false, false, false, false, false, none, false, none⟩
            callouts := t.callouts, lines := t.lines
            reorders := (s.reorders.filter fun r => !(decide (r.printer = p) && !r.state.isOpen)).map fun r =>
              if r.printer = p then { r with state := .cancelled } else r
            ports := ((if ∃ r ∈ s.reorders, r.printer = p ∧ r.state.isOpen = true
              then (s.begun port .removePrinter tag).raise .orderClosed toSupplies
              else s.begun port .removePrinter tag).acceptedWith port .removePrinter tag []).ports }
        ∧ (∀ n, t.callouts.rd n = if n.val / 3 = p.val then none else s.callouts.rd n)
        ∧ ∀ cls, t.lines.get cls = true ↔ ∃ n x, calloutClass n = cls ∧ t.callouts.rd n = some x ∧ x.state = .opened)
      ∧ (e.service ≠ .disabled → exec (.removePrinter port tag body) s
        = .next ((s.begun port .removePrinter tag).replied port .removePrinter tag (.refused .wrongState) [])))
  ∧ (
    ∀ (s : State) (port : PortNo) (tag : Byte) (body : List Byte) (p : PrinterNo) (sh : Sharing),
      s.Ready port .setSharing body → body.length = 4 → u8 body 0 = p.val → sharingAt body 1 = some sh →
      ((∀ t ∈ sh.named, (s.tenants.rd t).isSome = true) → ∀ e, s.printers.rd p = .enrolled e →
        ((∀ x, s.sessions.rd p = some x → sh.gives x.account.tenant = true) →
          exec (.setSharing port tag body) s = .next (State.serveChannels (State.acceptedWith
            { s.begun port .setSharing tag with printers := s.printers.wr p (.enrolled { e with sharing := sh }) }
            port .setSharing tag [])))
        ∧ (∀ x, s.sessions.rd p = some x → sh.gives x.account.tenant = false →
          exec (.setSharing port tag body) s = .next (State.serveChannels ((State.endSession
            { s.begun port .setSharing tag with printers := s.printers.wr p (.enrolled { e with sharing := sh }) }
            p .noAccess).acceptedWith port .setSharing tag []))))
      ∧ ((∀ t ∈ sh.named, (s.tenants.rd t).isSome = true) → s.enrolled p = none →
        exec (.setSharing port tag body) s = .next (State.serveChannels
          ((s.begun port .setSharing tag).replied port .setSharing tag (.refused .wrongState) [])))
      ∧ ((∃ t ∈ sh.named, s.tenants.rd t = none) → exec (.setSharing port tag body) s = .next (State.serveChannels
          ((s.begun port .setSharing tag).replied port .setSharing tag (.refused .noSuch) []))))

/-- RESET CHANNEL, before the arbiters choose (log 7): the channel is IDLE; at each of its positions every mark is
clear and the end reason gone, but for PROBE with RESYNC at an enrolled printer; the session has ended, an enrolment
has failed, and a GRANTED active job is HELD again. Other channels and their printers, positions and sessions stay as
they are, and jobs PRINTING and SUSPENDED are kept. The printers are taken from position 0 upward: a GRANTED active job
is re-held by `State.rehold`, which gives the accounts, the tenants and the events; the session ends without a mark;
and the requester of a failed enrolment that still waits is answered CHANNEL RESET (R14, R37). -/
def Obligations.ChannelIsReset : Prop :=
  (∀ (s : State) (port : PortNo) (tag : Byte) (body : List Byte) (c : ChannelNo),
      s.Ready port .resetChannel body → body.length = 1 → u8 body 0 = c.val → ∃ t : State,
        exec (.resetChannel port tag body) s = .next (State.serveChannels (t.acceptedWith port .resetChannel tag []))
        ∧ t = (List.finRange 8).foldl (fun u k => u.resetPrinter (printerAt c k)) { s.begun port .resetChannel tag with
            channels := s.channels.wr c .idle
            positions := Table.tab fun p => if channelOf p = c then
              ⟨false, false, false, false, false, false, none, (s.positions.rd p).resync, (s.positions.rd p).silence⟩
              else s.positions.rd p }
        ∧ t.channels = s.channels.wr c .idle
        ∧ (∀ k, (s.enrolled (printerAt c k) = none →
            t.positions.rd (printerAt c k) = ⟨false, false, false, false, false, false, none,
              (s.positions.rd (printerAt c k)).resync, (s.positions.rd (printerAt c k)).silence⟩)
          ∧ (∀ e, s.printers.rd (printerAt c k) = .enrolled e →
            t.positions.rd (printerAt c k) = ⟨false, false, false, false, false, true, none, true,
              (s.positions.rd (printerAt c k)).silence⟩
            ∧ ((∀ h j cam timer, e.activeJob = some h → s.job h = some j →
                  j.state ≠ .granted (printerAt c k) cam timer) →
                t.printers.rd (printerAt c k) = .enrolled e)
            ∧ (∀ h j cam timer, e.activeJob = some h → s.job h = some j →
                j.state = .granted (printerAt c k) cam timer →
                t.printers.rd (printerAt c k) = .enrolled { e with
                  activeJob := none, service := if e.service = .draining then .disabled else e.service }
                ∧ ∃ i, t.job h = some i ∧ i.state = .held ∧ i.reserved = 0 ∧ i.holdMinutes = s.holdTime j.owner.tenant
                  ∧ i.doneMono = j.doneMono ∧ i.doneColour = j.doneColour ∧ i.charged = j.charged))
          ∧ (∀ sh who, s.printers.rd (printerAt c k) = .enrolling sh who →
            t.printers.rd (printerAt c k) = .absent)
          ∧ (s.printers.rd (printerAt c k) = .absent → t.printers.rd (printerAt c k) = .absent)
          ∧ t.sessions.rd (printerAt c k) = none)
        ∧ (∀ p, channelOf p ≠ c → t.printers.rd p = s.printers.rd p ∧ t.positions.rd p = s.positions.rd p
          ∧ t.sessions.rd p = s.sessions.rd p)
        ∧ (∀ n j, s.jobAt n = some j → (∀ p cam timer, j.state ≠ .granted p cam timer) → t.jobAt n = some j)
        ∧ t = { s with
            channels := t.channels, positions := t.positions, printers := t.printers, sessions := t.sessions
            jobs := t.jobs, accounts := t.accounts, tenants := t.tenants, ports := t.ports })
    ∧ ∀ (u v : State) (p : PrinterNo),
      ((∃ h j cam timer, u.activeJob p = some h ∧ u.job h = some j ∧ j.state = .granted p cam timer
          ∧ u.rehold h p = some v)
        ∨ v = u ∧ ∀ h j cam timer, u.activeJob p = some h → u.job h = some j → j.state ≠ .granted p cam timer) →
      ((u.enrolled p).isSome = true → u.resetPrinter p = { v.endSession p .channelReset with
          positions := v.positions.wr p { v.positions.rd p with resync := true, probe := true } })
      ∧ (∀ sh n tag, u.printers.rd p = .enrolling sh (some (n, tag)) → (u.ports.rd n).outstanding = some ⟨0x10, tag⟩ →
        u.resetPrinter p = { v.endSession p .channelReset with
          printers := v.printers.wr p .absent
          ports := v.ports.wr n { v.ports.rd n with answer := some ⟨0x10, tag, .enrolFailed .channelReset, []⟩ } })
      ∧ (∀ sh who, u.printers.rd p = .enrolling sh who →
        (∀ n tag, who = some (n, tag) → (u.ports.rd n).outstanding ≠ some ⟨0x10, tag⟩) →
        u.resetPrinter p = { v.endSession p .channelReset with printers := v.printers.wr p .absent })
      ∧ (u.printers.rd p = .absent → u.resetPrinter p = v.endSession p .channelReset)

/-! ### Tenants and accounts -/

/-- DEFINE TENANT: the record takes the fields of the body, with hold hours clamped and nothing charged or reserved; a
pool of allowance 0 is EXHAUSTED at once, with its event; a DEFINED tenant is WRONG STATE and a field out of its range
is MALFORMED (R41, R42). AMEND TENANT: each field is replaced by a new value or kept; a pool allowance made absent
clears EXHAUSTED, one at or below the charged amount sets it, with its event when it was clear; a limit below its count
is refused LIMIT, and an ABSENT tenant NO SUCH. The layout of the body is log 20 (R41, R43, Table 3.2). -/
def Obligations.TenantIsDefinedAndAmended : Prop :=
  (
    ∀ (s : State) (port : PortNo) (tag : Byte) (body : List Byte), s.Ready port .defineTenant body → body.length = 18 →
      (∀ (t : TenantNo) (pool default : Option Nat), u8 body 0 = t.val + 1 →
        (u8 body 1 = 0 ∧ pool = some (u24 body 2) ∨ u8 body 1 = 1 ∧ pool = none) →
        (u8 body 5 = 0 ∧ default = some (u24 body 6) ∨ u8 body 5 = 1 ∧ default = none) →
        u8 body 9 ≠ 0 → u8 body 10 ≠ 0 → u8 body 11 ≠ 0 → u8 body 12 ≠ 0 →
        1 ≤ u16 body 14 → u16 body 14 ≤ 1024 → 1 ≤ u16 body 16 → u16 body 16 ≤ 2048 →
        (s.tenants.rd t = none → ∃ s' : State,
          s' = { s.begun port .defineTenant tag with
            tenants := s.tenants.wr t (some ⟨pool, 0, 0, decide (pool = some 0), default,
              ⟨u8 body 9, u8 body 10, u8 body 11, u8 body 12⟩, max 1 (min (u8 body 13) 168),
              u16 body 14, u16 body 16, 0, 0⟩) }
          ∧ exec (.defineTenant port tag body) s = .next
            ((if pool = some 0 then s'.raise .poolExhausted (toTenantAndFacilities t) else s').acceptedWith
              port .defineTenant tag []))
        ∧ (s.tenants.rd t ≠ none → exec (.defineTenant port tag body) s
          = .next ((s.begun port .defineTenant tag).replied port .defineTenant tag (.refused .wrongState) [])))
      ∧ (u8 body 0 = 0 ∨ 16 < u8 body 0 ∨ 1 < u8 body 1 ∨ 1 < u8 body 5
          ∨ u8 body 9 = 0 ∨ u8 body 10 = 0 ∨ u8 body 11 = 0 ∨ u8 body 12 = 0
          ∨ u16 body 14 = 0 ∨ 1024 < u16 body 14 ∨ u16 body 16 = 0 ∨ 2048 < u16 body 16 →
        exec (.defineTenant port tag body) s
          = .next ((s.begun port .defineTenant tag).replied port .defineTenant tag (.refused .malformed) [])))
  ∧ (
    ∀ (s : State) (port : PortNo) (tag : Byte) (body : List Byte) (t : TenantNo),
      s.Ready port .amendTenant body → body.length = 22 → u8 body 0 = t.val + 1 →
      (u8 body 1 ≤ 1 ∨ u8 body 1 = 3) → (u8 body 5 ≤ 1 ∨ u8 body 5 = 3) →
      (u8 body 9 = 0 ∧ u8 body 10 ≠ 0 ∧ u8 body 11 ≠ 0 ∧ u8 body 12 ≠ 0 ∧ u8 body 13 ≠ 0 ∨ u8 body 9 = 3) →
      (u8 body 14 = 0 ∨ u8 body 14 = 3) →
      (u8 body 16 = 0 ∧ 1 ≤ u16 body 17 ∧ u16 body 17 ≤ 1024 ∨ u8 body 16 = 3) →
      (u8 body 19 = 0 ∧ 1 ≤ u16 body 20 ∧ u16 body 20 ≤ 2048 ∨ u8 body 19 = 3) →
      (∀ x, s.tenants.rd t = some x →
        ((u8 body 16 = 0 → x.liveJobs ≤ u16 body 17) ∧ (u8 body 19 = 0 → x.accountCount ≤ u16 body 20) →
          ∃ s' : State, s' = { s.begun port .amendTenant tag with
            tenants := s.tenants.wr t (some { x with
              poolAllowance := if u8 body 1 = 0 then some (u24 body 2) else if u8 body 1 = 1 then none else x.poolAllowance
              poolExhausted := if u8 body 1 = 0 then x.poolExhausted || decide (u24 body 2 ≤ x.poolCharged)
                else if u8 body 1 = 1 then false else x.poolExhausted
              defaultAllowance := if u8 body 5 = 0 then some (u24 body 6) else if u8 body 5 = 1 then none
                else x.defaultAllowance
              tariff := if u8 body 9 = 0 then ⟨u8 body 10, u8 body 11, u8 body 12, u8 body 13⟩ else x.tariff
              holdHours := if u8 body 14 = 0 then max 1 (min (u8 body 15) 168) else x.holdHours
              jobLimit := if u8 body 16 = 0 then u16 body 17 else x.jobLimit
              accountLimit := if u8 body 19 = 0 then u16 body 20 else x.accountLimit }) }
          ∧ exec (.amendTenant port tag body) s = .next
            ((if u8 body 1 = 0 ∧ u24 body 2 ≤ x.poolCharged ∧ x.poolExhausted = false
              then s'.raise .poolExhausted (toTenantAndFacilities t) else s').acceptedWith port .amendTenant tag []))
        ∧ (u8 body 16 = 0 ∧ u16 body 17 < x.liveJobs ∨ u8 body 19 = 0 ∧ u16 body 20 < x.accountCount →
          exec (.amendTenant port tag body) s
            = .next ((s.begun port .amendTenant tag).replied port .amendTenant tag (.refused .limit) [])))
      ∧ (s.tenants.rd t = none → exec (.amendTenant port tag body) s
          = .next ((s.begun port .amendTenant tag).replied port .amendTenant tag (.refused .noSuch) [])))

/-- RENEW POOL: pool charged is 0 and pool EXHAUSTED clear, set again at once by an allowance of 0; nothing else of the
tenant and no account changes; POOL RENEWED goes to the tenant's ports; the refusals (R57). -/
def Obligations.PoolIsRenewed : Prop :=
  ∀ (s : State) (port : PortNo) (tag : Byte) (body : List Byte), s.Ready port .renewPool body → body.length = 1 →
    (∀ (t : TenantNo) (x : Tenant), u8 body 0 = t.val + 1 → s.tenants.rd t = some x →
      exec (.renewPool port tag body) s = .next ((State.raise { s.begun port .renewPool tag with
          tenants := s.tenants.wr t (some { x with
            poolCharged := 0, poolExhausted := decide (x.poolAllowance = some 0) }) }
        .poolRenewed (fun role => decide (role = .tenant t))).acceptedWith port .renewPool tag []))
    ∧ (∀ t : TenantNo, u8 body 0 = t.val + 1 → s.tenants.rd t = none → exec (.renewPool port tag body) s
        = .next ((s.begun port .renewPool tag).replied port .renewPool tag (.refused .noSuch) []))
    ∧ (u8 body 0 = 0 ∨ 16 < u8 body 0 → exec (.renewPool port tag body) s
        = .next ((s.begun port .renewPool tag).replied port .renewPool tag (.refused .malformed) []))

/-- REMOVE TENANT: refused WRONG STATE while a job of the tenant is active; otherwise the sessions of its accounts end,
every job record of it is freed (in a free order, log 12), its accounts go, its ports become UNBOUND, its sharings are
withdrawn, and the record is ABSENT (R7, R45). The arbiters' choice at the end of a step is log 7's. -/
def Obligations.TenantIsRemoved : Prop :=
  ∀ (s : State) (port : PortNo) (tag : Byte) (body : List Byte) (t : TenantNo),
    s.Ready port .removeTenant body → body.length = 1 → u8 body 0 = t.val + 1 → (s.tenants.rd t).isSome = true →
    ((∀ n j p cam, s.jobAt n = some j → j.owner.tenant = t → j.state.active ≠ some (p, cam)) →
      ∃ (order : List RecordNo) (u : State),
        order.Nodup ∧ (∀ n, n ∈ order ↔ ∃ j, s.jobAt n = some j ∧ j.owner.tenant = t)
        ∧ exec (.removeTenant port tag body) s
          = .next (State.serveChannels (u.acceptedWith port .removeTenant tag []))
        ∧ u.tenants.rd t = none
        ∧ u.accounts.all (fun a => decide (a.key.tenant ≠ t)) = true
        ∧ u.completions.rd t = []
        ∧ (∀ n j, u.jobAt n = some j → s.jobAt n = some j ∧ j.owner.tenant ≠ t)
        ∧ (∀ n j, s.jobAt n = some j → j.owner.tenant = t →
            u.jobs.rd n = ⟨(s.jobs.rd n).generation + 1, none⟩)
        ∧ (∀ n j, s.jobAt n = some j → j.owner.tenant ≠ t → u.jobs.rd n = s.jobs.rd n)
        ∧ u.freeList = s.freeList ++ order
        ∧ (∀ p x, u.sessions.rd p = some x → x.account.tenant ≠ t)
        ∧ (∀ m, (s.ports.rd m).role = .tenant t → m ≠ port →
            u.ports.rd m = ⟨.unbound, none, none, none, false, 0, 0, .idle⟩)
        ∧ (∀ p sh who, s.printers.rd p = .enrolling sh who → u.printers.rd p = .enrolling (sh.without t) who)
        ∧ (∀ p e, s.printers.rd p = .enrolled e → u.printers.rd p = .enrolled { e with
            sharing := e.sharing.without t
            service := if e.sharing = .dedicated t ∧ e.service = .inService
              then (if e.activeJob = none then .disabled else .draining) else e.service })
        ∧ u.reorders = s.reorders ∧ u.callouts = s.callouts ∧ u.lines = s.lines)
    ∧ ((∃ n j p cam, s.jobAt n = some j ∧ j.owner.tenant = t ∧ j.state.active = some (p, cam)) →
      exec (.removeTenant port tag body) s = .next (State.serveChannels
        ((s.begun port .removeTenant tag).replied port .removeTenant tag (.refused .wrongState) [])))

/-- CREATE ACCOUNT: a record with nothing charged, the allowance resolved, the credential entered, the tenant's count
raised, and an allowance of 0 EXHAUSTED at once with its event; DUPLICATE, LIMIT and POOL FULL in that order. RENEW
PERIOD: charged 0 and EXHAUSTED set again only by an allowance of 0, for one account or for all of the tenant's, and no
pool changes (R41, R47, R48, R50, R51, R56). -/
def Obligations.AccountsAreCreatedAndRenewed : Prop :=
  (∀ (s : State) (port : PortNo) (tag : Byte) (body : List Byte) (t : TenantNo) (x : Tenant) (cred : Option Word32)
      (allowance : Option Nat),
      s.Ready port .createAccount body → (s.ports.rd port).role = .tenant t → body.length = 10 → u16 body 0 ≠ 0 →
      s.tenants.rd t = some x → cred = (if u32 body 2 = 0 then none else some (u32 body 2)) →
      (u8 body 6 = 0 ∧ allowance = some (u24 body 7) ∨ u8 body 6 = 1 ∧ allowance = none
        ∨ u8 body 6 = 2 ∧ allowance = x.defaultAllowance) →
      ((∀ a ∈ s.accounts, a.key ≠ ⟨t, u16 body 0⟩ ∧ (cred = none ∨ a.credential ≠ cred)) →
        (x.accountCount < x.accountLimit → s.accounts.length < 2048 → ∃ s' : State,
          s' = { s.begun port .createAccount tag with
            accounts := s.accounts
              ++ [⟨⟨t, u16 body 0⟩, cred, allowance, 0, 0, false, decide (allowance = some 0), 0, none⟩]
            tenants := s.tenants.wr t (some { x with accountCount := x.accountCount + 1 }) }
          ∧ exec (.createAccount port tag body) s = .next
            ((if allowance = some 0 then s'.raise .accountExhausted (toTenant t) else s').acceptedWith
              port .createAccount tag (be2 (u16 body 0) ++ optField 3 be3 allowance)))
        ∧ (x.accountLimit ≤ x.accountCount → exec (.createAccount port tag body) s
          = .next ((s.begun port .createAccount tag).replied port .createAccount tag (.refused .limit) []))
        ∧ (x.accountCount < x.accountLimit → 2048 ≤ s.accounts.length → exec (.createAccount port tag body) s
          = .next ((s.begun port .createAccount tag).replied port .createAccount tag (.refused .poolFull) [])))
      ∧ ((∃ a ∈ s.accounts, a.key = ⟨t, u16 body 0⟩ ∨ (cred ≠ none ∧ a.credential = cred)) →
        exec (.createAccount port tag body) s
          = .next ((s.begun port .createAccount tag).replied port .createAccount tag (.refused .duplicate) [])))
    ∧ (∀ (s : State) (port : PortNo) (tag : Byte) (body : List Byte) (t : TenantNo),
      s.Ready port .renewPeriod body → (s.ports.rd port).role = .tenant t → body.length = 3 →
      (u8 body 0 = 4 → exec (.renewPeriod port tag body) s = .next (State.acceptedWith
        { s.begun port .renewPeriod tag with
          accounts := s.accounts.map fun a => if a.key.tenant = t then
            { a with charged := 0, exhausted := decide (a.allowance = some 0) } else a }
        port .renewPeriod tag (be2 (s.accounts.filter fun a => decide (a.key.tenant = t)).length)))
      ∧ (u8 body 0 = 0 → u16 body 1 ≠ 0 → (∃ a ∈ s.accounts, a.key = ⟨t, u16 body 1⟩) →
        exec (.renewPeriod port tag body) s = .next (State.acceptedWith
        { s.begun port .renewPeriod tag with
          accounts := s.accounts.map fun a => if a.key = ⟨t, u16 body 1⟩ then
            { a with charged := 0, exhausted := decide (a.allowance = some 0) } else a }
        port .renewPeriod tag [0, 1]))
      ∧ (u8 body 0 = 0 → u16 body 1 ≠ 0 → (∀ a ∈ s.accounts, a.key ≠ ⟨t, u16 body 1⟩) →
        exec (.renewPeriod port tag body) s
          = .next ((s.begun port .renewPeriod tag).replied port .renewPeriod tag (.refused .noSuch) [])))

/-- AMEND ACCOUNT: allowance, credential and BARRED each take a new value or stay; an allowance made absent clears
EXHAUSTED and one at or below the charged amount sets it, with its event when it was clear; the session of an account
newly barred ends; the answer carries the account; a digest of another account is DUPLICATE and an unknown number NO
SUCH (R41, R50, R52, R53). REMOVE ACCOUNT: refused WRONG STATE while a job of the account is active and NO SUCH for an
unknown number; otherwise its session ends, its HELD jobs are freed (in a free order, log 12), its record goes and the
tenant's count falls; its COMPLETE jobs stay (R50, R54). The arbiters' choice at the end of a step is log 7's. -/
def Obligations.AccountIsAmendedAndRemoved : Prop :=
  (
    ∀ (s : State) (port : PortNo) (tag : Byte) (body : List Byte) (t : TenantNo) (x : Tenant),
      s.Ready port .amendAccount body → (s.ports.rd port).role = .tenant t → body.length = 13 → u16 body 0 ≠ 0 →
      u8 body 2 ≤ 3 → (u8 body 6 = 0 ∨ u8 body 6 = 3) → (u8 body 11 = 0 ∧ u8 body 12 ≤ 1 ∨ u8 body 11 = 3) →
      s.tenants.rd t = some x → (s.accounts.map (·.key)).Nodup →
      (∀ (a : Account) (allowance : Option Nat) (cred : Option Word32) (barred : Bool),
        a ∈ s.accounts → a.key = ⟨t, u16 body 0⟩ →
        allowance = (if u8 body 2 = 0 then some (u24 body 3) else if u8 body 2 = 1 then none
          else if u8 body 2 = 2 then x.defaultAllowance else a.allowance) →
        cred = (if u8 body 6 = 3 then a.credential else if u32 body 7 = 0 then none else some (u32 body 7)) →
        barred = (if u8 body 11 = 3 then a.barred else decide (u8 body 12 = 1)) →
        ((u8 body 6 = 0 → u32 body 7 ≠ 0 → ∀ b ∈ s.accounts, b.key ≠ a.key → b.credential ≠ some (u32 body 7)) →
          ∃ s' s'' : State,
            s' = { s.begun port .amendAccount tag with
              accounts := s.accounts.map fun b => if b.key = a.key then { a with
                allowance := allowance, credential := cred, barred := barred
                exhausted := if u8 body 2 = 3 then a.exhausted else if allowance = none then false
                  else a.exhausted || reaches allowance a.charged } else b }
            ∧ s'' = (if u8 body 2 ≠ 3 ∧ a.exhausted = false ∧ reaches allowance a.charged = true
                then s'.raise .accountExhausted (toTenant t) else s')
            ∧ ((barred = true → a.barred = true) ∨ a.session = none →
              ∃ b, s''.account a.key = some b ∧ exec (.amendAccount port tag body) s
                = .next (State.serveChannels (s''.acceptedWith port .amendAccount tag (accountBody b))))
            ∧ (barred = true → a.barred = false → ∀ p, a.session = some p →
              ∃ b, (s''.endSession p .accountBarred).account a.key = some b ∧ exec (.amendAccount port tag body) s
                = .next (State.serveChannels ((s''.endSession p .accountBarred).acceptedWith port .amendAccount tag
                  (accountBody b)))))
        ∧ ((u8 body 6 = 0 ∧ u32 body 7 ≠ 0 ∧ ∃ b ∈ s.accounts, b.key ≠ a.key ∧ b.credential = some (u32 body 7)) →
          exec (.amendAccount port tag body) s = .next (State.serveChannels
            ((s.begun port .amendAccount tag).replied port .amendAccount tag (.refused .duplicate) []))))
      ∧ ((∀ a ∈ s.accounts, a.key ≠ ⟨t, u16 body 0⟩) → exec (.amendAccount port tag body) s
        = .next (State.serveChannels
          ((s.begun port .amendAccount tag).replied port .amendAccount tag (.refused .noSuch) []))))
  ∧ (
    ∀ (s : State) (port : PortNo) (tag : Byte) (body : List Byte) (t : TenantNo),
      s.Ready port .removeAccount body → (s.ports.rd port).role = .tenant t → body.length = 2 → u16 body 0 ≠ 0 →
      (∀ a, s.account ⟨t, u16 body 0⟩ = some a →
        ((∀ n j, s.jobAt n = some j → j.owner = a.key → j.state.active = none) →
          ∃ (order : List RecordNo) (u v : State),
            order.Nodup ∧ (∀ n, n ∈ order ↔ ∃ j, s.jobAt n = some j ∧ j.owner = a.key ∧ j.state = .held)
            ∧ u = (match a.session with
                | some p => (s.begun port .removeAccount tag).endSession p .accountRemoved
                | none => s.begun port .removeAccount tag)
            ∧ v = order.foldl State.freeRecord { u with draws := u.draws + 1 }
            ∧ exec (.removeAccount port tag body) s = .next (State.serveChannels (State.acceptedWith { v with
                accounts := v.accounts.filter fun b => b.key ≠ a.key
                tenants := match v.tenants.rd t with
                  | some x => v.tenants.wr t (some { x with accountCount := x.accountCount - 1 })
                  | none => v.tenants } port .removeAccount tag [])))
        ∧ ((∃ n j, s.jobAt n = some j ∧ j.owner = a.key ∧ j.state.active ≠ none) →
          exec (.removeAccount port tag body) s = .next (State.serveChannels
            ((s.begun port .removeAccount tag).replied port .removeAccount tag (.refused .wrongState) []))))
      ∧ (s.account ⟨t, u16 body 0⟩ = none → exec (.removeAccount port tag body) s = .next (State.serveChannels
          ((s.begun port .removeAccount tag).replied port .removeAccount tag (.refused .noSuch) []))))

/-! ### The job pool -/

/-- SUBMIT JOB: the record at the head of the free list holds the job, HELD for the tenant's hold hours, with nothing
done, charged or reserved; it joins the tail of the submission list, the two counts rise, and the answer carries the
handle and the tag; DUPLICATE, LIMIT and POOL FULL in that order (R69, R70). -/
def Obligations.JobIsSubmitted : Prop :=
  ∀ (s : State) (port : PortNo) (tag : Byte) (body : List Byte) (t : TenantNo) (x : Tenant)
    (preferred : Option PrinterNo),
    s.Ready port .submitJob body → (s.ports.rd port).role = .tenant t → body.length = 14 → u16 body 0 ≠ 0 →
    (u16 body 8 ≠ 0 ∨ u16 body 10 ≠ 0) → s.tenants.rd t = some x →
    (∃ a ∈ s.accounts, a.key = ⟨t, u16 body 0⟩) →
    ((u8 body 12).testBit 1 = false ∧ preferred = none
      ∨ (u8 body 12).testBit 1 = true ∧ ∃ p, preferred = some p ∧ u8 body 13 = p.val ∧ (s.enrolled p).isSome = true) →
    ((∀ n j, s.jobAt n = some j → j.owner.tenant = t → j.tag ≠ u16 body 2) →
      (x.liveJobs < x.jobLimit → ∀ n rest, s.freeList = n :: rest →
        exec (.submitJob port tag body) s = .next (State.acceptedWith { s.begun port .submitJob tag with
            freeList := rest, submission := s.submission ++ [n]
            jobs := s.jobs.wr n ⟨(s.jobs.rd n).generation, some
              ⟨⟨t, u16 body 0⟩, u16 body 2, u32 body 4, u16 body 8, u16 body 10, (u8 body 12).testBit 0, preferred,
                .held, x.holdHours * 60, 0, 0, 0, 0⟩⟩
            accounts := s.accounts.map fun a => if a.key = ⟨t, u16 body 0⟩ then
              { a with heldJobs := a.heldJobs + 1 } else a
            tenants := s.tenants.wr t (some { x with liveJobs := x.liveJobs + 1 }) } port .submitJob tag
          (be2 ((s.jobs.rd n).generation.val * 1024 + n.val) ++ be2 (u16 body 2))))
      ∧ (x.jobLimit ≤ x.liveJobs → exec (.submitJob port tag body) s
        = .next ((s.begun port .submitJob tag).replied port .submitJob tag (.refused .limit) []))
      ∧ (x.liveJobs < x.jobLimit → s.freeList = [] → exec (.submitJob port tag body) s
        = .next ((s.begun port .submitJob tag).replied port .submitJob tag (.refused .poolFull) [])))
    ∧ ((∃ n j, s.jobAt n = some j ∧ j.owner.tenant = t ∧ j.tag = u16 body 2) → exec (.submitJob port tag body) s
        = .next ((s.begun port .submitJob tag).replied port .submitJob tag (.refused .duplicate) []))

/-- Freeing a record: it leaves every list, its generation rises by one so that its handle names no job, it joins the
tail of the free list, and the counts fall. WITHDRAW frees a HELD job of the asking tenant, and no other; TAKE
COMPLETIONS answers and frees the oldest records of the tenant's completion list, at most 6, each as a completion
record of 19 bytes: handle, tag, account number, outcome, finished-at, sides done and units charged (R60, R61, R68,
R73, R77, Table 12.6). The arbiters' choice at the end of a step is log 7's. -/
def Obligations.RecordsAreFreed : Prop :=
  (∀ (s : State) (n : RecordNo) (j : Job), s.jobAt n = some j →
      (s.freeRecord n).jobs = s.jobs.wr n ⟨(s.jobs.rd n).generation + 1, none⟩
      ∧ (s.freeRecord n).freeList = s.freeList ++ [n]
      ∧ (s.freeRecord n).submission = s.submission.filter (· ≠ n)
      ∧ (s.freeRecord n).completions
          = s.completions.wr j.owner.tenant ((s.completions.rd j.owner.tenant).filter (· ≠ n))
      ∧ (s.freeRecord n).accounts = (if j.state = .held then s.accounts.map (fun a =>
          if a.key = j.owner then { a with heldJobs := a.heldJobs - 1 } else a) else s.accounts)
      ∧ (∀ x, s.tenants.rd j.owner.tenant = some x → (s.freeRecord n).tenants
          = s.tenants.wr j.owner.tenant (some { x with liveJobs := x.liveJobs - 1 }))
      ∧ (∀ p x, (s.freeRecord n).sessions.rd p = some x →
          s.handleOf n ∉ x.release ∧ some (s.handleOf n) ∉ x.eligible.cells)
      ∧ (s.freeRecord n).job (s.handleOf n) = none
      ∧ s.freeRecord n = { s with
          jobs := (s.freeRecord n).jobs, freeList := (s.freeRecord n).freeList
          submission := (s.freeRecord n).submission, completions := (s.freeRecord n).completions
          accounts := (s.freeRecord n).accounts, tenants := (s.freeRecord n).tenants
          sessions := (s.freeRecord n).sessions, positions := (s.freeRecord n).positions })
    ∧ (∀ (s : State) (port : PortNo) (tag : Byte) (body : List Byte) (t : TenantNo) (h : Handle),
      s.Ready port .withdraw body → (s.ports.rd port).role = .tenant t → body.length = 2 → handleAt body 0 = h →
      (∀ j, s.job h = some j → j.owner.tenant = t →
        (j.state = .held → exec (.withdraw port tag body) s = .next (State.serveChannels
          (((s.begun port .withdraw tag).freeRecord h.record).acceptedWith port .withdraw tag [])))
        ∧ (j.state ≠ .held → exec (.withdraw port tag body) s = .next (State.serveChannels
          ((s.begun port .withdraw tag).replied port .withdraw tag (.refused .wrongState) []))))
      ∧ ((∀ j, s.job h = some j → j.owner.tenant ≠ t) → exec (.withdraw port tag body) s = .next (State.serveChannels
          ((s.begun port .withdraw tag).replied port .withdraw tag (.refused .noSuch) []))))
    ∧ (∀ (s : State) (n : RecordNo) (j : Job) (outcome : JobOutcome) (day second : Nat), s.jobAt n = some j →
      j.state = .complete outcome ⟨day, second⟩ →
      s.completionRecord n = be2 ((s.jobs.rd n).generation.val * 1024 + n.val) ++ be2 j.tag ++ be2 j.owner.number
          ++ (match outcome with | .done => [1] | .cancelled => [2] | .expired => [3]) ++ be2 day ++ be3 second
          ++ be2 j.doneMono ++ be2 j.doneColour ++ be3 j.charged
        ∧ (s.completionRecord n).length = 19)
    ∧ ∀ (s : State) (port : PortNo) (tag : Byte) (t : TenantNo), s.Ready port .takeCompletions [] →
      (s.ports.rd port).role = .tenant t →
      exec (.takeCompletions port tag []) s = .next (State.serveChannels ((((s.completions.rd t).take 6).foldl
        State.freeRecord (s.begun port .takeCompletions tag)).acceptedWith port .takeCompletions tag
        (be1 (min (s.completions.rd t).length 6) ++ be2 ((s.completions.rd t).length - 6)
          ++ (((s.completions.rd t).take 6).map s.completionRecord).flatten)))

/-- A handle that leaves the lists: its eligible position becomes vacant and the others keep theirs, with a SHOW LIST
mark while SHOWING; a release list left empty at a printer without an active job returns the session to SHOWING with a
fresh window timer and a SHOW LIST mark; everything else stays (R72, R73, R86, R91). JOB EXPIRE: the first job of the
submission list that is HELD with no hold minutes left, in no release list, becomes COMPLETE with outcome EXPIRED,
stamped with the minute mark; it moves to the tail of its tenant's completion list, the held count falls, its handle
leaves the lists, and both events are raised. With none due nothing happens (R72; log 3, log 6). The arbiters' choice
at the end of a step is log 7's. -/
def Obligations.HeldJobExpires : Prop :=
  (
    ∀ (s : State) (h : Handle),
      s.forget h = { s with sessions := (s.forget h).sessions, positions := (s.forget h).positions }
      ∧ ∀ p, (s.sessions.rd p = none →
          (s.forget h).sessions.rd p = none ∧ (s.forget h).positions.rd p = s.positions.rd p)
        ∧ ∀ x, s.sessions.rd p = some x →
          (x.releasing = true ∧ h ∈ x.release ∧ (∀ g ∈ x.release, g = h) ∧ s.activeJob p = none →
            ((s.forget h).positions.rd p = { s.positions.rd p with showList := true }
            ∧ ∀ e, s.printers.rd p = .enrolled e → (s.forget h).sessions.rd p = some { x with
                eligible := x.eligible.map fun g => if g = some h then none else g
                release := [], releasing := false, window := some e.descriptor.window }))
          ∧ (¬ (x.releasing = true ∧ h ∈ x.release ∧ (∀ g ∈ x.release, g = h) ∧ s.activeJob p = none) →
            (s.forget h).sessions.rd p = some { x with
                eligible := x.eligible.map fun g => if g = some h then none else g
                release := x.release.filter (· ≠ h) }
            ∧ (s.forget h).positions.rd p = (if x.releasing = false ∧ some h ∈ x.eligible.cells
                then { s.positions.rd p with showList := true } else s.positions.rd p)))
  ∧ (
    (∀ (s : State) (n : RecordNo) (before after : List RecordNo) (j : Job),
        s.submission = before ++ n :: after → s.jobAt n = some j → j.state = .held → j.holdMinutes = 0 →
        (∀ p x, s.sessions.rd p = some x → s.handleOf n ∉ x.release) →
        (∀ m ∈ before, ∀ i, s.jobAt m = some i → i.state = .held → i.holdMinutes = 0 →
          ∃ p x, s.sessions.rd p = some x ∧ s.handleOf m ∈ x.release) →
        exec .jobExpire s = .next (State.serveChannels ((((State.forget { s with
            jobs := s.jobs.wr n ⟨(s.jobs.rd n).generation, some { j with
              state := .complete .expired s.lastMinuteMark }⟩
            accounts := s.accounts.map fun a => if a.key = j.owner then { a with heldJobs := a.heldJobs - 1 } else a
            submission := s.submission.filter (· ≠ n)
            completions := s.completions.wr j.owner.tenant (s.completions.rd j.owner.tenant ++ [n]) }
          (s.handleOf n)).raise .jobExpired (toTenant j.owner.tenant)).raise .jobFinished (toTenant j.owner.tenant)))))
      ∧ ∀ s : State, (∀ m ∈ s.submission, ∀ i, s.jobAt m = some i → i.state = .held → i.holdMinutes = 0 →
          ∃ p x, s.sessions.rd p = some x ∧ s.handleOf m ∈ x.release) →
        exec .jobExpire s = .next s.serveChannels)

/-! ### The fleet clock -/

/-- A second mark advances the clock by one second and counts every running timer of Table 11.1 down by one, and makes
a minute mark and a day close due where the reading calls for them; a minute mark that is due takes one hold minute
from every HELD job of the submission list that stands in no release list. A minute mark with none due is taken
together with the second mark that lands on it, and otherwise does nothing (R71, R188, R189, R190; the split of the
three events is log 5, timers rest at 0 by log 4). -/
def Obligations.MarksCountTimersDown : Prop :=
  (∀ s : State, ∃ t : State, exec .secondMark s = .next t
      ∧ t.clock = (if s.clock.second < 86399 then ⟨s.clock.day, s.clock.second + 1⟩
          else ⟨if s.clock.day < 65535 then s.clock.day + 1 else 0, 0⟩)
      ∧ (∀ p e, s.printers.rd p = .enrolled e → t.printers.rd p = .enrolled { e with
          grace := ⟨e.grace.user.map (· - 1), e.grace.supply.map (· - 1), e.grace.service.map (· - 1)⟩ })
      ∧ (∀ p, s.enrolled p = none → t.printers.rd p = s.printers.rd p)
      ∧ (∀ p, t.positions.rd p = { s.positions.rd p with silence := (s.positions.rd p).silence.map (· - 1) })
      ∧ (∀ p, t.sessions.rd p = (s.sessions.rd p).map fun x => { x with window := x.window.map (· - 1) })
      ∧ (∀ n j, s.jobAt n = some j → t.jobs.rd n = ⟨(s.jobs.rd n).generation, some { j with
          state := match j.state with
            | .held => .held
            | .granted p cam timer => .granted p cam (timer.map (· - 1))
            | .printing p cam => .printing p cam
            | .suspended p cam timer => .suspended p cam (timer - 1)
            | .complete outcome at_ => .complete outcome at_ }⟩)
      ∧ (∀ n, s.jobAt n = none → t.jobs.rd n = s.jobs.rd n)
      ∧ t.minuteMarksDue = s.minuteMarksDue + (if t.clock.second % 60 = 0 then 1 else 0)
      ∧ t.dayClosesDue = s.dayClosesDue + (if s.clock.second < 86399 then 0 else 1)
      ∧ t.lastMinuteMark = (if t.clock.second % 60 = 0 then t.clock else s.lastMinuteMark)
      ∧ t = { s with
          clock := t.clock, printers := t.printers, positions := t.positions, sessions := t.sessions, jobs := t.jobs
          minuteMarksDue := t.minuteMarksDue, dayClosesDue := t.dayClosesDue, lastMinuteMark := t.lastMinuteMark })
    ∧ (∀ s : State, 0 < s.minuteMarksDue → ∃ t : State, exec .minuteMark s = .next t
      ∧ t = { s with jobs := t.jobs, minuteMarksDue := s.minuteMarksDue - 1 }
      ∧ (∀ n j, s.jobAt n = some j → j.state = .held → n ∈ s.submission →
          (∀ p x, s.sessions.rd p = some x → s.handleOf n ∉ x.release) →
          t.jobs.rd n = ⟨(s.jobs.rd n).generation, some { j with holdMinutes := j.holdMinutes - 1 }⟩)
      ∧ (∀ n, (∀ j, s.jobAt n = some j → j.state = .held → n ∈ s.submission →
          ∃ p x, s.sessions.rd p = some x ∧ s.handleOf n ∈ x.release) → t.jobs.rd n = s.jobs.rd n))
    ∧ ∀ s : State, s.minuteMarksDue = 0 →
      (∀ u, exec .secondMark s = .next u → u.clock.second % 60 = 0 → exec .minuteMark s = exec .minuteMark u)
      ∧ (∀ u, exec .secondMark s = .next u → u.clock.second % 60 ≠ 0 → exec .minuteMark s = .next s)

/-- Day close: the rate of every slot of every enrolled printer is updated, once SEEDED to seven eighths of the old
rate and one eighth of the day's doses, and its days to empty with it; a NORMAL reorder is raised for exactly the slots
without an open one whose days to empty lie within lead days and safety days; nothing else changes. The order of the
slots is free (log 13), and a day close with none due is taken with the second mark that makes it (log 5) (R124, R137,
R139, R191). -/
def Obligations.DayCloseRatesAndTests : Prop :=
  (∀ s : State, s.SlotsDerived → 0 < s.dayClosesDue → ∃ (t : State) (new : List Reorder),
      exec .dayClose s = .next t
      ∧ (∀ p e, s.printers.rd p = .enrolled e → t.printers.rd p = .enrolled { e with
          slots := e.slots.map fun x => { x with
            rate := if x.seeded then (7 * x.rate + x.today) / 8 else x.today
            seeded := x.seeded || decide (0 < x.today)
            today := 0
            daysToEmpty := daysOf (if x.seeded then (7 * x.rate + x.today) / 8 else x.today) x.remaining } })
      ∧ (∀ p, s.enrolled p = none → t.printers.rd p = s.printers.rd p)
      ∧ t.reorders = s.reorders ++ new
      ∧ (new.map fun r => (r.printer, r.slot)).Nodup
      ∧ (∀ p i, (∃ r ∈ new, r.printer = p ∧ r.slot = i) ↔ ∃ e x, t.printers.rd p = .enrolled e ∧ e.slots[i]? = some x
          ∧ s.openReorder p i = none ∧ x.daysToEmpty ≠ 999 ∧ x.daysToEmpty ≤ s.leadDays + s.safetyDays)
      ∧ (∀ r ∈ new, r.urgency = .normal ∧ r.state = .raised ∧ r.raisedAt = s.clock ∧ r.orderRef = none
          ∧ r.expectedDay = none
          ∧ ∃ e x, s.printers.rd r.printer = .enrolled e ∧ e.slots[r.slot]? = some x ∧ r.kind = x.kind
            ∧ r.level = x.level)
      ∧ t = { s with
          printers := t.printers, reorders := t.reorders, reorderCounter := t.reorderCounter
          ports := if new = [] then s.ports else (s.raise .orderRaised toSupplies).ports
          dayClosesDue := s.dayClosesDue - 1, draws := s.draws + 1 })
    ∧ (∀ rate remaining : Nat, daysOf rate remaining = if rate = 0 then 999 else min (remaining / rate) 999)
    ∧ ∀ s : State, s.dayClosesDue = 0 →
      (∀ u, exec .secondMark s = .next u → 86399 ≤ s.clock.second → exec .dayClose s = exec .dayClose u)
      ∧ (s.clock.second < 86399 → exec .dayClose s = .next s)

/-- SET CLOCK sets day number and second of day, each or not, and answers the reading; it makes no mark and changes
nothing else; a second above 86,399 is MALFORMED. Power-on and FLEET RESET put every block at its starting values;
FLEET RESET then stands as port 0's outstanding request and is answered with the reading 0, 0, and with any body is
MALFORMED. What waits in the queue, the service request lines and the draws are kept (log 25) (R192, R193, R194, R174
step 1). The arbiters' choice at the end of a step is log 7's. -/
def Obligations.ClockIsSetAndFleetIsReset : Prop :=
  (∀ (s : State) (port : PortNo) (tag : Byte) (body : List Byte) (day second : Nat),
      s.Ready port .setClock body → body.length = 7 →
      (u8 body 0 = 0 ∧ day = u16 body 1 ∨ u8 body 0 = 3 ∧ day = s.clock.day) →
      (u8 body 3 = 0 ∧ second = u24 body 4 ∧ second ≤ 86399 ∨ u8 body 3 = 3 ∧ second = s.clock.second) →
      exec (.setClock port tag body) s = .next (State.acceptedWith
        { s.begun port .setClock tag with clock := ⟨day, second⟩ } port .setClock tag (be2 day ++ be3 second)))
    ∧ (∀ (s : State) (port : PortNo) (tag : Byte) (body : List Byte),
      s.Ready port .setClock body → body.length = 7 → u8 body 3 = 0 → 86399 < u24 body 4 →
      exec (.setClock port tag body) s
        = .next ((s.begun port .setClock tag).replied port .setClock tag (.refused .malformed) []))
    ∧ (∀ s : State, exec .powerOn s = .next (State.serveChannels
      { State.reset with pending := s.pending, serviceLines := s.serviceLines, draws := s.draws }))
    ∧ (∀ (s : State) (tag : Byte), exec (.fleetReset 0 tag []) s = .next
      { State.serveChannels
          { State.reset with pending := s.pending, serviceLines := s.serviceLines, draws := s.draws } with
        ports := State.reset.ports.wr 0 ⟨.facilities, some ⟨0x7F, tag⟩,
          some ⟨0x7F, tag, .accepted, [0, 0, 0, 0, 0]⟩, none, false, 0, 0, .idle⟩ })
    ∧ ∀ (s : State) (port : PortNo) (tag : Byte) (body : List Byte), s.Ready port .fleetReset body → body ≠ [] →
      exec (.fleetReset port tag body) s
        = .next ((s.begun port .fleetReset tag).replied port .fleetReset tag (.refused .malformed) [])

/-! ### Sessions ending, re-holds and the expiries -/

/-- The end of a session: its record is gone, its account's session field is clear, and an END SESSION mark with the
reason is set unless the reason calls for none, or the user has logged out and the end follows the job (Table 5.3, log
23); nothing else changes. The window timer's expiry ends a SHOWING session, TIMED OUT; the silence timer's sets a
PROBE mark and starts again at 20 s; neither does anything before it is due (log 3) (R31, R80, R87). The arbiters'
choice at the end of a step is log 7's. -/
def Obligations.SessionsEndAndSilenceProbes : Prop :=
  (∀ (s : State) (p : PrinterNo) (reason : EndReason), s.sessions.rd p = none → s.endSession p reason = s)
    ∧ (∀ (s : State) (p : PrinterNo) (reason : EndReason) (x : Session), s.sessions.rd p = some x →
      s.endSession p reason = { s with
        sessions := s.sessions.wr p none
        accounts := s.accounts.map fun a => if a.key = x.account then { a with session := none } else a
        positions := if reason ∈ [.takenOver, .channelReset] ∨ (x.loggedOut = true
              ∧ reason ∈ [.sessionDone, .printerStopped, .grantRefused, .notStarted]) then s.positions
          else s.positions.wr p { s.positions.rd p with endSession := true, endReason := some reason } })
    ∧ (∀ (s : State) (p : PrinterNo) (x : Session), s.sessions.rd p = some x → x.releasing = false →
      x.window = some 0 → exec (.windowTimerExpiry p) s = .next (s.endSession p .timedOut).serveChannels)
    ∧ (∀ (s : State) (p : PrinterNo),
      (∀ x, s.sessions.rd p = some x → x.releasing = true ∨ x.window ≠ some 0) →
      exec (.windowTimerExpiry p) s = .next s.serveChannels)
    ∧ (∀ (s : State) (c : ChannelNo) (k : PositionNo), (s.positions.rd (printerAt c k)).silence = some 0 →
      exec (.silenceTimerExpiry c k) s = .next (State.serveChannels { s with
        positions := s.positions.wr (printerAt c k)
          { s.positions.rd (printerAt c k) with probe := true, silence := some 20 } }))
    ∧ ∀ (s : State) (c : ChannelNo) (k : PositionNo), (s.positions.rd (printerAt c k)).silence ≠ some 0 →
      exec (.silenceTimerExpiry c k) s = .next s.serveChannels

/-- A re-hold: the job is HELD again with its reservation given back and its hold time restarted, its printer has no
active job (a DRAINING one becomes DISABLED, with its event), the held count rises and JOB RE-HELD is raised. The start
timer's expiry re-holds a GRANTED job, NOT STARTED, and the suspend timer's a SUSPENDED one, PRINTER STOPPED, each with
a REVOKE mark and the end of the session; neither does anything before it is due (log 3) (R4, R66, R95, R114, R157,
R159). The arbiters' choice at the end of a step is log 7's. -/
def Obligations.JobsAreReheld : Prop :=
  (∀ (s : State) (h : Handle) (p : PrinterNo) (j : Job) (cam : Bool) (e : Enrolled) (x : Tenant),
      s.job h = some j → j.state.active = some (p, cam) → s.printers.rd p = .enrolled e →
      s.tenants.rd j.owner.tenant = some x → ∃ u : State, s.rehold h p = some u
        ∧ u = { s with
            jobs := s.jobs.wr h.record ⟨h.generation, some { j with
              state := .held, reserved := 0, holdMinutes := x.holdHours * 60 }⟩
            accounts := s.accounts.map fun a => if a.key = j.owner then
              { a with reserved := a.reserved - j.reserved, heldJobs := a.heldJobs + 1 } else a
            tenants := s.tenants.wr j.owner.tenant (some { x with poolReserved := x.poolReserved - j.reserved })
            printers := s.printers.wr p (.enrolled { e with
              activeJob := none, service := if e.service = .draining then .disabled else e.service })
            ports := u.ports }
        ∧ u.ports = ((if e.service = .draining then s.raise .printerDisabled toFacilities else s).raise .jobReheld
            (toTenant j.owner.tenant)).ports)
    ∧ (∀ (s : State) (h : Handle) (p : PrinterNo),
      (∀ j cam, s.job h = some j → j.state.active ≠ some (p, cam)) → s.rehold h p = none)
    ∧ (∀ (s u : State) (p : PrinterNo) (h : Handle) (j : Job) (cam : Bool), s.activeJob p = some h →
      s.job h = some j → s.rehold h p = some u →
      (j.state = .granted p cam (some 0) → exec (.startTimerExpiry p) s = .next (State.serveChannels
        (State.endSession { u with positions := u.positions.wr p { u.positions.rd p with revoke := true } } p
          .notStarted)))
      ∧ (j.state = .suspended p cam 0 → exec (.suspendTimerExpiry p) s = .next (State.serveChannels
        (State.endSession { u with positions := u.positions.wr p { u.positions.rd p with revoke := true } } p
          .printerStopped))))
    ∧ (∀ (s : State) (p : PrinterNo), (∀ h j cam, s.activeJob p = some h → s.job h = some j →
        j.state ≠ .granted p cam (some 0)) → exec (.startTimerExpiry p) s = .next s.serveChannels)
    ∧ ∀ (s : State) (p : PrinterNo), (∀ h j cam, s.activeJob p = some h → s.job h = some j →
        j.state ≠ .suspended p cam 0) → exec (.suspendTimerExpiry p) s = .next s.serveChannels

/-- The expiry of a grace timer opens the callout of its printer and class, or reopens a CLEARED one with its count
raised, up to 255: the code, the clock, the linked reorder and the suspended job are recorded, the line is asserted,
and CALLOUT OPENED is raised; a SERVICE callout then re-holds a SUSPENDED job. Before it is due nothing happens (log 3)
(R156, R160, R163, R164, R167). The arbiters' choice at the end of a step is log 7's. -/
def Obligations.GraceExpiryOpensCallouts : Prop :=
  (∀ (s u : State) (p : PrinterNo) (cls : CondClass) (e : Enrolled) (count : Nat),
      s.printers.rd p = .enrolled e → e.grace.get cls = some 0 →
      (s.callouts.rd (calloutNo p cls) = none ∧ count = 0
        ∨ ∃ x, s.callouts.rd (calloutNo p cls) = some x ∧ x.state = .cleared ∧ count = min (x.reopenCount + 1) 255) →
      u = State.raise { s with
        printers := s.printers.wr p (.enrolled { e with grace := e.grace.set cls none })
        callouts := s.callouts.wr (calloutNo p cls) (some ⟨e.codes.get cls, s.clock, .opened, count,
          s.linkedReorder p cls (e.codes.get cls), s.suspendedJob p⟩)
        lines := s.lines.set cls true } .calloutOpened toFacilities →
      exec (.graceTimerExpiry p cls) s = .next (State.serveChannels
        (if cls = .service ∧ s.suspendedJob p ≠ none then u.conditionRehold p else u)))
    ∧ (∀ (s : State) (p : PrinterNo) (cls : CondClass), (∀ e, s.printers.rd p = .enrolled e →
        e.grace.get cls ≠ some 0) → exec (.graceTimerExpiry p cls) s = .next s.serveChannels)
    ∧ (∀ (s : State) (p : PrinterNo) (cls : CondClass) (code : Byte) (i : Nat), i < 5 →
      s.linkedReorder p .supply (BitVec.ofNat 8 (i + 1))
          = (if (s.slot p i).isSome then (s.openReorder p i).map (·.number) else none)
        ∧ (cls ≠ .supply ∨ 5 < code.toNat ∨ code = 0 → s.linkedReorder p cls code = none))
    ∧ (∀ (s : State) (p : PrinterNo) (h : Handle), s.suspendedJob p = some h ↔
        s.activeJob p = some h ∧ ∃ j q cam timer, s.job h = some j ∧ j.state = .suspended q cam timer)
    ∧ ∀ (s u : State) (p : PrinterNo) (h : Handle), s.activeJob p = some h → s.rehold h p = some u →
      s.conditionRehold p = State.endSession { u with
        positions := u.positions.wr p { u.positions.rd p with revoke := true } } p .printerStopped

/-! ### The riser channels -/

/-- The arbiters: nothing but the channels, the marks, the end reasons, and the eligible lists and notes of sessions
changes, and no mark is set; an IDLE channel takes its lowest position with a mark, and there the highest mark in the
order of Table 2.1, which is cleared and sent with the content the records give it then, the channel's other marks,
positions and sessions staying as they are; a mark whose matter has gone is dropped, and the choice is made as if it
had not been set; without a mark the channel calls the lowest position whose service request is active; a channel that
is not IDLE, or has nothing to choose, stays as it is. The arbiters choose at the end of a step (log 7). SERVICE
REQUEST ACTIVE asserts the line (log 8) (R23, R24, R25, R26, R33, R85, R92). -/
def Obligations.ArbiterServesInOrder : Prop :=
  (∀ s : State, s.serveChannels = { s with
      channels := s.serveChannels.channels, positions := s.serveChannels.positions
      sessions := s.serveChannels.sessions })
    ∧ (∀ (s : State) (p : PrinterNo),
      (s.serveChannels.positions.rd p).resync = (s.positions.rd p).resync
      ∧ (s.serveChannels.positions.rd p).silence = (s.positions.rd p).silence
      ∧ (∀ m, (s.serveChannels.positions.rd p).marked m = true → (s.positions.rd p).marked m = true)
      ∧ (s.sessions.rd p = none → s.serveChannels.sessions.rd p = none)
      ∧ ∀ x, s.sessions.rd p = some x → ∃ y, s.serveChannels.sessions.rd p = some y
        ∧ y = { x with eligible := y.eligible, note := y.note })
    ∧ (∀ s : State, s.Quiet → s.serveChannels = s)
    ∧ (∀ (s : State) (c : ChannelNo), (s.channels.rd c ≠ .idle
        ∨ ∀ k, (∀ m, (s.positions.rd (printerAt c k)).marked m = false) ∧ s.serviceLines.rd (printerAt c k) = false) →
      s.serveChannels.channels.rd c = s.channels.rd c
      ∧ ∀ k, s.serveChannels.positions.rd (printerAt c k) = s.positions.rd (printerAt c k)
        ∧ s.serveChannels.sessions.rd (printerAt c k) = s.sessions.rd (printerAt c k))
    ∧ (∀ (s : State) (c : ChannelNo) (k : PositionNo) (kind : MarkKind) (frame : RiserRequest),
      s.channels.rd c = .idle → (∀ j, j < k → ∀ m, (s.positions.rd (printerAt c j)).marked m = false) →
      (s.positions.rd (printerAt c k)).marked kind = true →
      (∀ m : MarkKind, m.code < kind.code → (s.positions.rd (printerAt c k)).marked m = false) →
      (kind = .revoke ∧ frame = .revoke (s.activeJob (printerAt c k))
        ∨ kind = .grant ∧ (∃ h j cam timer, s.activeJob (printerAt c k) = some h ∧ s.job h = some j
          ∧ j.state = .granted (printerAt c k) cam timer
          ∧ frame = .grant h j.spool j.owner.tenant (j.doneMono + j.doneColour) cam)
        ∨ kind = .endSession ∧ frame = .endSession (s.positions.rd (printerAt c k)).endReason
          (match s.sessions.rd (printerAt c k) with
            | none => .none
            | some x => if x.releasing then .releasing else .showing)
        ∨ kind = .showList ∧ (∃ e x, s.printers.rd (printerAt c k) = .enrolled e
          ∧ s.sessions.rd (printerAt c k) = some x
          ∧ frame = .showList (if x.releasing then .releasing else .showing)
            (Table.tab fun i => ((s.eligibleHandles (printerAt c k) e x.account)[i.val]?.bind s.job).map fun j =>
              (j.tag, (j.declaredMono - j.doneMono) + (j.declaredColour - j.doneColour))) x.note)
        ∨ kind = .describe ∧ (∃ sh who, s.printers.rd (printerAt c k) = .enrolling sh who) ∧ frame = .describe
        ∨ kind = .probe ∧ (s.enrolled (printerAt c k)).isSome = true
          ∧ frame = .probe (s.positions.rd (printerAt c k)).resync) →
      s.serveChannels.channels.rd c = .awaitingAnswer k frame
          (match s.enrolled (printerAt c k) with | some e => e.descriptor.answerTime | none => 2000)
        ∧ (∀ m, (s.serveChannels.positions.rd (printerAt c k)).marked m
            = if m = kind then false else (s.positions.rd (printerAt c k)).marked m)
        ∧ (s.serveChannels.positions.rd (printerAt c k)).endReason
            = (if kind = .endSession then none else (s.positions.rd (printerAt c k)).endReason)
        ∧ (kind = .showList → ∀ e x, s.printers.rd (printerAt c k) = .enrolled e →
            s.sessions.rd (printerAt c k) = some x → s.serveChannels.sessions.rd (printerAt c k) = some { x with
              eligible := Table.tab fun i => (s.eligibleHandles (printerAt c k) e x.account)[i.val]?, note := none })
        ∧ ∀ j, (j ≠ k → s.serveChannels.positions.rd (printerAt c j) = s.positions.rd (printerAt c j))
          ∧ (j ≠ k ∨ kind ≠ .showList → s.serveChannels.sessions.rd (printerAt c j) = s.sessions.rd (printerAt c j)))
    ∧ (∀ (s : State) (c : ChannelNo) (k : PositionNo) (kind : MarkKind),
      s.channels.rd c = .idle → (∀ j, j < k → ∀ m, (s.positions.rd (printerAt c j)).marked m = false) →
      (s.positions.rd (printerAt c k)).marked kind = true →
      (∀ m : MarkKind, m.code < kind.code → (s.positions.rd (printerAt c k)).marked m = false) →
      (kind = .grant ∧ (∀ h j cam timer, s.activeJob (printerAt c k) = some h → s.job h = some j →
          j.state ≠ .granted (printerAt c k) cam timer)
        ∨ kind = .showList ∧ (s.sessions.rd (printerAt c k) = none ∨ s.enrolled (printerAt c k) = none)
        ∨ kind = .describe ∧ (∀ sh who, s.printers.rd (printerAt c k) ≠ .enrolling sh who)
        ∨ kind = .probe ∧ s.enrolled (printerAt c k) = none) →
      s.serveChannels = State.serveChannels { s with
        positions := s.positions.wr (printerAt c k) ((s.positions.rd (printerAt c k)).withMark kind false) })
    ∧ (∀ (s : State) (c : ChannelNo) (k : PositionNo), s.channels.rd c = .idle →
      (∀ j m, (s.positions.rd (printerAt c j)).marked m = false) → s.serviceLines.rd (printerAt c k) = true →
      (∀ j, j < k → s.serviceLines.rd (printerAt c j) = false) →
      s.serveChannels.channels.rd c = .awaitingReport k
          (match s.enrolled (printerAt c k) with | some e => e.descriptor.answerTime | none => 2000)
        ∧ ∀ j, s.serveChannels.positions.rd (printerAt c j) = s.positions.rd (printerAt c j)
          ∧ s.serveChannels.sessions.rd (printerAt c j) = s.sessions.rd (printerAt c j))
    ∧ ∀ (s : State) (c : ChannelNo) (k : PositionNo), exec (.serviceRequestActive c k) s
      = .next (State.serveChannels { s with serviceLines := s.serviceLines.wr (printerAt c k) true })

/-- A frame heard from a position: at an enrolled printer the silence timer starts again at 20 s and NO ANSWER, where
it is the code held, is cleared with its grace timer and its callout; at a printer not enrolled nothing happens. A
stray frame does that alone, whatever it is; bytes that hold no frame are heard from no position (R29, R30, R154,
R166). Which command a frame's bytes are is log 2's; that a stray CONDITION report of class SERVICE clears NO ANSWER as
any other frame does is log 10's reading. -/
def Obligations.StrayFramesAreOnlyHeard : Prop :=
  (∀ (s : State) (p : PrinterNo), s.enrolled p = none → s.heard p false = s)
    ∧ (∀ (s : State) (p : PrinterNo) (e : Enrolled), s.printers.rd p = .enrolled e →
      (e.codes.service ≠ 255 → s.heard p false = { s with
        positions := s.positions.wr p { s.positions.rd p with silence := some 20 } })
      ∧ (e.codes.service = 255 → s.heard p false = State.clearCallout { s with
        positions := s.positions.wr p { s.positions.rd p with silence := some 20 }
        printers := s.printers.wr p (.enrolled { e with
          codes := ⟨e.codes.user, e.codes.supply, 0⟩, grace := ⟨e.grace.user, e.grace.supply, none⟩ }) } p .service))
    ∧ (∀ (s : State) (p : PrinterNo) (cls : CondClass),
      (∀ x, s.callouts.rd (calloutNo p cls) = some x → x.state ≠ .cleared → ∃ t : State,
        s.clearCallout p cls = t
        ∧ t = { s.raise .calloutCleared toFacilities with callouts := t.callouts, lines := t.lines }
        ∧ t.callouts = s.callouts.wr (calloutNo p cls) (some { x with state := .cleared }))
      ∧ ((∀ x, s.callouts.rd (calloutNo p cls) = some x → x.state = .cleared) → s.clearCallout p cls = s))
    ∧ (∀ (s : State) (c : ChannelNo) (k : PositionNo) (cls kind : Byte) (body : List Byte), body.length ≤ 48 →
      (cls = 2 → ∀ sent, s.Asked c k sent → sent.kind.code ≠ kind.toNat) → (cls = 3 → ¬ s.Called c k) →
      exec (.strayFrame c k cls kind body) s = .next (s.heard (printerAt c k) false))
    ∧ (∀ (s : State) (c : ChannelNo) (bytes : List Byte),
      (RiserFrame.receive bytes = none → exec (.riserFrameDiscarded c bytes) s = .next s)
      ∧ ∀ f, RiserFrame.receive bytes = some f → exec (.riserFrameDiscarded c bytes) s
          = exec (.strayFrame c f.position f.cls f.kind f.body) s)

/-- The report of a called position is examined in the order of R34: a printer not enrolled, an unknown kind, a body of
the wrong length, a handle that is not the active job; each is answered STALE with its cause, the line takes its new
level and the channel is IDLE. NOTHING is answered with nothing. A CONDITION report of class SERVICE is not examined
here (R29, R33, R34; log 8, log 10). The arbiters' choice at the end of a step is log 7's. -/
def Obligations.ReportsAreExaminedInOrder : Prop :=
  (∀ (s : State) (c : ChannelNo) (k : PositionNo) (line : Bool) (a : ReportAnswer),
      s.endReport c k line (some a) = { s with
        serviceLines := s.serviceLines.wr (printerAt c k) line, channels := s.channels.wr c .idle
        reportAnswers := s.reportAnswers.wr c (some (k, a)) })
    ∧ (∀ (s : State) (c : ChannelNo) (k : PositionNo) (line : Bool), s.Called c k →
      exec (.nothing c k line) s = .next (State.serveChannels { s.heard (printerAt c k) false with
        serviceLines := s.serviceLines.wr (printerAt c k) line, channels := s.channels.wr c .idle }))
    ∧ (∀ (s : State) (c : ChannelNo) (k : PositionNo) (kind : Byte) (body : List Byte) (line : Bool),
      s.Called c k → body.length ≤ 48 → ¬ (kind = 0 ∧ body = []) →
      ¬ (kind = 0x17 ∧ body.length = 2 ∧ u8 body 0 = 3) →
      (s.enrolled (printerAt c k) = none → exec (.unknownKind c k kind body line) s = .next (State.serveChannels
        (s.endReport c k line (some (.stale .notEnrolled)))))
      ∧ (∀ e, s.printers.rd (printerAt c k) = .enrolled e →
        ((kind.toNat < 16 ∨ 24 < kind.toNat) → exec (.unknownKind c k kind body line) s = .next (State.serveChannels
          ((s.heard (printerAt c k) false).endReport c k line (some (.stale .unknownKind)))))
        ∧ (∀ r, reportRule kind = some r → body.length ≠ r.length →
          exec (.unknownKind c k kind body line) s = .next (State.serveChannels
            ((s.heard (printerAt c k) false).endReport c k line (some (.stale .malformed)))))
        ∧ (∀ r, reportRule kind = some r → body.length = r.length → r.namesJob = true →
          e.activeJob ≠ some (handleAt body 0) → exec (.unknownKind c k kind body line) s = .next (State.serveChannels
            ((s.heard (printerAt c k) false).endReport c k line (some (.stale .notActive)))))))
    ∧ (∀ (c : ChannelNo) (k : PositionNo) (body : List Byte) (line : Bool) (s : State),
      exec (.present c k body line) s = exec (.unknownKind c k 0x10 body line) s
      ∧ exec (.select c k body line) s = exec (.unknownKind c k 0x11 body line) s
      ∧ exec (.logout c k body line) s = exec (.unknownKind c k 0x12 body line) s
      ∧ exec (.jobStart c k body line) s = exec (.unknownKind c k 0x13 body line) s
      ∧ exec (.sides c k body line) s = exec (.unknownKind c k 0x14 body line) s
      ∧ exec (.jobResumed c k body line) s = exec (.unknownKind c k 0x15 body line) s
      ∧ exec (.jobEnd c k body line) s = exec (.unknownKind c k 0x16 body line) s
      ∧ exec (.condition c k body line) s = exec (.unknownKind c k 0x17 body line) s
      ∧ exec (.cartridge c k body line) s = exec (.unknownKind c k 0x18 body line) s)
    ∧ [16, 17, 18, 19, 20, 21, 22, 23, 24].map (fun kind : Nat => (reportRule (BitVec.ofNat 8 kind)).map fun r =>
        (r.length, r.namesJob))
      = [some (4, false), some (2, false), some (0, false), some (2, true), some (14, true), some (2, true),
        some (3, true), some (2, false), some (5, false)]

/-- The answers to requests: an ACCEPTED grant starts the start timer, once; any other body re-holds the job, with a
REVOKE mark and the end of the session, GRANT REFUSED; an acknowledgement and a PROBE answer are heard, and the PROBE
answer to a RESYNC probe clears the flag. The channel is IDLE after each (R27, R32, R93, R94). The arbiters' choice at
the end of a step is log 7's. -/
def Obligations.AnswersAreTaken : Prop :=
  ∀ (s u : State) (c : ChannelNo) (k : PositionNo) (sent : RiserRequest) (body : List Byte),
    s.Asked c k sent → body.length ≤ 48 →
    u = { s.heard (printerAt c k) false with channels := s.channels.wr c .idle } →
    (∀ h spool t resume cam, sent = .grant h spool t resume cam →
      (∀ e j cam', s.printers.rd (printerAt c k) = .enrolled e → s.job h = some j → body = [1] →
        j.state = .granted (printerAt c k) cam' none →
        exec (.grantAnswer c k body) s = .next (State.serveChannels { u with
          jobs := s.jobs.wr h.record ⟨h.generation, some { j with
            state := .granted (printerAt c k) cam' (some e.descriptor.startLimit) }⟩ }))
      ∧ (∀ j cam' timer v, s.job h = some j → body ≠ [1] → j.state = .granted (printerAt c k) cam' timer →
        u.rehold h (printerAt c k) = some v →
        exec (.grantAnswer c k body) s = .next (State.serveChannels (State.endSession { v with
          positions := v.positions.wr (printerAt c k) { v.positions.rd (printerAt c k) with revoke := true } }
          (printerAt c k) .grantRefused)))
      ∧ ((∀ j cam' timer, s.job h = some j → j.state ≠ .granted (printerAt c k) cam' timer) →
        exec (.grantAnswer c k body) s = .next u.serveChannels))
    ∧ (∀ kind : Byte, sent.kind.code = kind.toNat → (kind = 1 ∨ kind = 3 ∨ kind = 4) →
      exec (.acknowledgementAnswer c k kind body) s = .next u.serveChannels)
    ∧ (sent = .probe false → exec (.probeAnswer c k body) s = .next u.serveChannels)
    ∧ (sent = .probe true → exec (.probeAnswer c k body) s = .next (State.serveChannels { u with
        positions := u.positions.wr (printerAt c k) { u.positions.rd (printerAt c k) with resync := false } }))

/-- A request left unanswered: the channel is IDLE, and NO ANSWER is raised on an enrolled printer; an enrolment that
the DESCRIBE began fails, NO ANSWER; nothing more where the printer is ABSENT. A report that does not come: NO ANSWER
on an enrolled printer. Without a transaction nothing happens (R14, R28, R36, R151; log 9, log 11). The arbiters'
choice at the end of a step is log 7's. -/
def Obligations.TimeoutsRaiseNoAnswer : Prop :=
  (∀ (s : State) (c : ChannelNo) (k : PositionNo) (sent : RiserRequest), s.Asked c k sent →
      ((s.enrolled (printerAt c k)).isSome = true → exec (.requestAnswerTimeout c) s = .next (State.serveChannels
        (State.raiseCode { s with channels := s.channels.wr c .idle } (printerAt c k) .service 255 true)))
      ∧ (∀ sh port tag, s.printers.rd (printerAt c k) = .enrolling sh (some (port, tag)) → sent = .describe →
        (s.ports.rd port).outstanding = some ⟨0x10, tag⟩ →
        exec (.requestAnswerTimeout c) s = .next (State.serveChannels { s with
          channels := s.channels.wr c .idle, printers := s.printers.wr (printerAt c k) .absent
          ports := s.ports.wr port { s.ports.rd port with answer := some ⟨0x10, tag, .enrolFailed .noAnswer, []⟩ } }))
      ∧ (∀ sh who, s.printers.rd (printerAt c k) = .enrolling sh who → sent ≠ .describe →
        exec (.requestAnswerTimeout c) s = .next (State.serveChannels { s with channels := s.channels.wr c .idle }))
      ∧ (s.printers.rd (printerAt c k) = .absent → exec (.requestAnswerTimeout c) s
        = .next (State.serveChannels { s with channels := s.channels.wr c .idle })))
    ∧ (∀ (s : State) (c : ChannelNo) (k : PositionNo), s.Called c k →
      ((s.enrolled (printerAt c k)).isSome = true → exec (.reportCallTimeout c) s = .next (State.serveChannels
        (State.raiseCode { s with channels := s.channels.wr c .idle } (printerAt c k) .service 255 true)))
      ∧ (s.enrolled (printerAt c k) = none → exec (.reportCallTimeout c) s
        = .next (State.serveChannels { s with channels := s.channels.wr c .idle })))
    ∧ ∀ (s : State) (c : ChannelNo),
      ((∀ k sent, ¬ s.Asked c k sent) → exec (.requestAnswerTimeout c) s = .next s.serveChannels)
      ∧ ((∀ k, ¬ s.Called c k) → exec (.reportCallTimeout c) s = .next s.serveChannels)

/-! ### Secure release -/

/-- A PRESENT report, always answered TAKEN: the tests of Table 5.2 in their order, a refusal setting END SESSION with
its reason (and SHOW LIST for a standing SHOWING session); an accepted one ends the account's SHOWING session
elsewhere, MOVED, and another account's session here, TAKEN OVER, and opens a session, or refreshes the account's own
(R81, R82, R83, R84). The arbiters' choice at the end of a step is log 7's; the line's level after a report is log 8's.
-/
def Obligations.PresentationIsExaminedAndTaken : Prop :=
  ∀ (s u : State) (c : ChannelNo) (k : PositionNo) (p : PrinterNo) (body : List Byte) (line : Bool) (e : Enrolled),
    s.Called c k → p = printerAt c k → body.length = 4 → u = s.heard p false → u.printers.rd p = .enrolled e →
    (∀ reason : EndReason,
      (e.service ≠ .inService ∧ reason = .outOfService
        ∨ e.service = .inService ∧ e.codes ≠ ⟨0, 0, 0⟩ ∧ reason = .printerStopped
        ∨ e.service = .inService ∧ e.codes = ⟨0, 0, 0⟩ ∧ reason = .unknownBadge
          ∧ (u32 body 0 = 0 ∨ ∀ a ∈ s.accounts, a.credential ≠ some (u32 body 0))
        ∨ e.service = .inService ∧ e.codes = ⟨0, 0, 0⟩ ∧ ∃ a, u.accountOfDigest (u32 body 0) = some a
          ∧ (a.barred = true ∧ reason = .accountBarred
            ∨ a.barred = false ∧ e.sharing.gives a.key.tenant = false ∧ reason = .noAccess
            ∨ a.barred = false ∧ e.sharing.gives a.key.tenant = true ∧ reason = .printerBusy
              ∧ (∃ h j, e.activeJob = some h ∧ s.job h = some j ∧ j.owner ≠ a.key)
            ∨ a.barred = false ∧ e.sharing.gives a.key.tenant = true ∧ reason = .accountInSession
              ∧ (∀ h j, e.activeJob = some h → s.job h = some j → j.owner = a.key)
              ∧ ∃ q x, a.session = some q ∧ q ≠ p ∧ s.sessions.rd q = some x ∧ x.releasing = true)) →
      exec (.present c k body line) s = .next (State.serveChannels (State.endReport { u with
        positions := u.positions.wr p { u.positions.rd p with
          endSession := true, endReason := some reason
          showList := (u.positions.rd p).showList || (s.sessions.rd p).any fun x => !x.releasing } }
        c k line (some .taken))))
    ∧ (∀ (a : Account) (v : State), e.service = .inService → e.codes = ⟨0, 0, 0⟩ →
      u.accountOfDigest (u32 body 0) = some a → a.barred = false → e.sharing.gives a.key.tenant = true →
      (∀ h j, e.activeJob = some h → s.job h = some j → j.owner = a.key) →
      (∀ q x, a.session = some q → q ≠ p → s.sessions.rd q = some x → x.releasing = false) →
      v = (match a.session with | some q => if q = p then u else u.endSession q .moved | none => u) →
      (∀ w : State, (s.sessions.rd p = none ∧ w = v
          ∨ ∃ x, s.sessions.rd p = some x ∧ x.account ≠ a.key ∧ w = v.endSession p .takenOver) →
        exec (.present c k body line) s = .next (State.serveChannels (State.endReport { w with
          sessions := w.sessions.wr p (some ⟨false, a.key, Table.fill 8 none, [], some e.descriptor.window, false, none⟩)
          accounts := w.accounts.map fun b => if b.key = a.key then { b with session := some p } else b
          positions := w.positions.wr p { w.positions.rd p with showList := true } } c k line (some .taken))))
      ∧ (∀ x, s.sessions.rd p = some x → x.account = a.key →
        exec (.present c k body line) s = .next (State.serveChannels (State.endReport { v with
          sessions := v.sessions.wr p (some (if x.releasing then { x with loggedOut := false }
            else { x with window := some e.descriptor.window }))
          positions := v.positions.wr p { v.positions.rd p with showList := true } } c k line (some .taken)))))

/-- The check at grant: the estimate at the tariff's weights, saturated; the account is examined first and fails with
QUOTA, the pool second with POOL; each test fails when the flag is set, when charged, reserved and the estimate
together exceed an allowance that is present, and when reserved and the estimate exceed 16,777,215 (R102, R104, R105).
-/
def Obligations.GrantIsChecked : Prop :=
  (∀ (w : Tariff) (colour : Bool) (j : Job), estimate w colour j =
      min ((j.declaredMono - j.doneMono) * (if j.large then w.largeMono else w.mono)
        + (j.declaredColour - j.doneColour) * (if colour
          then (if j.large then w.largeColour else w.colour) else (if j.large then w.largeMono else w.mono))) 16777215)
    ∧ ∀ (a : Account) (t : Tenant) (est : Nat),
      ((a.exhausted = true ∨ (∃ x, a.allowance = some x ∧ x < a.charged + a.reserved + est)
          ∨ 16777215 < a.reserved + est) → grantRefusal a t est = some .quota)
      ∧ (¬ (a.exhausted = true ∨ (∃ x, a.allowance = some x ∧ x < a.charged + a.reserved + est)
          ∨ 16777215 < a.reserved + est) →
        ((t.poolExhausted = true ∨ (∃ x, t.poolAllowance = some x ∧ x < t.poolCharged + t.poolReserved + est)
            ∨ 16777215 < t.poolReserved + est) → grantRefusal a t est = some .pool)
        ∧ (¬ (t.poolExhausted = true ∨ (∃ x, t.poolAllowance = some x ∧ x < t.poolCharged + t.poolReserved + est)
            ∨ 16777215 < t.poolReserved + est) → grantRefusal a t est = none))

/-- The eligible list holds, in submission order, the first 8 records that qualify. SELECT appends the chosen handles
that still qualify, in position order, up to 8, and makes a grant attempt; with none appended it sets a SHOW LIST mark;
without a session, or after LOGOUT, it is STALE (R6, R85, R88). That a job whose hold minutes stand at 0, and whose
expiry has not been taken yet, is not chosen is the model's choice (log 6), not a test of R85 or R88. The arbiters'
choice at the end of a step is log 7's; the line's level after a report is log 8's. -/
def Obligations.SelectionChoosesEligibleJobs : Prop :=
  ((∀ (s : State) (p : PrinterNo) (e : Enrolled) (key : AccountKey) (n : RecordNo), s.qualifies p e key n = true ↔
      ∃ j, s.jobAt n = some j ∧ j.owner = key ∧ j.state = .held
        ∧ (∀ q x, s.sessions.rd q = some x → s.handleOf n ∉ x.release)
        ∧ (j.large = true → e.descriptor.large = true) ∧ (∀ q, j.preferred = some q → q = p))
    ∧ ∀ (s : State) (p : PrinterNo) (e : Enrolled) (key : AccountKey) (l : List RecordNo),
      l.Sublist s.submission → (∀ n ∈ s.submission, n ∈ l ↔ s.qualifies p e key n = true) → s.submission.Nodup →
      s.eligibleHandles p e key = (l.take 8).map fun n => ⟨n, (s.jobs.rd n).generation⟩)
  ∧ (∀ (s : State) (p : PrinterNo) (e : Enrolled) (x : Session) (body : List Byte), ∃ new,
      s.chosenList p e x body = x.release ++ new
      ∧ new.Sublist ((List.finRange 8).filterMap fun i =>
          if u8 body 1 ≠ 0 ∨ (u8 body 0).testBit i.val = true then x.eligible.rd i else none)
      ∧ new.Nodup ∧ (x.release.length ≤ 8 → (x.release ++ new).length ≤ 8)
      ∧ (∀ h ∈ new, h ∉ x.release ∧ ∃ j, s.job h = some j ∧ s.qualifies p e x.account h.record = true
          ∧ j.holdMinutes ≠ 0)
      ∧ (∀ i h j, (u8 body 1 ≠ 0 ∨ (u8 body 0).testBit i.val = true) → x.eligible.rd i = some h →
          s.job h = some j → s.qualifies p e x.account h.record = true → j.holdMinutes ≠ 0 →
          h ∈ x.release ++ new ∨ 8 ≤ (x.release ++ new).length))
  ∧ ∀ (s u : State) (c : ChannelNo) (k : PositionNo) (p : PrinterNo) (body : List Byte) (line : Bool) (e : Enrolled),
    s.Called c k → p = printerAt c k → body.length = 2 → u = s.heard p false → u.printers.rd p = .enrolled e →
    (∀ x, s.sessions.rd p = some x → (x.releasing = true → x.loggedOut = false) →
      (u.chosenList p e x body = x.release → exec (.select c k body line) s = .next (State.serveChannels
        (State.endReport { u with positions := u.positions.wr p { u.positions.rd p with showList := true } }
          c k line (some .taken))))
      ∧ (u.chosenList p e x body ≠ x.release → exec (.select c k body line) s = .next (State.serveChannels
        ((State.grantAttempt { u with sessions := u.sessions.wr p (some { x with
            releasing := true, window := none, release := u.chosenList p e x body }) } p).endReport
          c k line (some .taken)))))
    ∧ ((∀ x, s.sessions.rd p = some x → x.releasing = true ∧ x.loggedOut = true) →
      exec (.select c k body line) s = .next (State.serveChannels
        (u.endReport c k line (some (.stale .sessionEnded)))))

/-- A grant attempt: the head of the release list is taken off; a HELD job that passes the check is GRANTED, its
estimate reserved in job, account and pool together, with COLOUR-AS-MONO where the printer lacks COLOUR and colour
sides remain, and a GRANT mark; one that fails is noted and stays HELD; a handle that is no HELD job is passed over;
the list run out, the session is SHOWING again. Without a RELEASING session with handles, IN_SERVICE, clear of
conditions and of an active job, nothing happens (R6, R65, R90, R91, R103, R106). -/
def Obligations.GrantIsAttempted : Prop :=
  (∀ (s : State) (p : PrinterNo) (e : Enrolled) (x : Session) (h : Handle) (rest : List Handle),
      s.printers.rd p = .enrolled e → s.sessions.rd p = some x → x.releasing = true → x.release = h :: rest →
      e.service = .inService → e.codes = ⟨0, 0, 0⟩ → e.activeJob = none →
      (∀ (j : Job) (a : Account) (t : Tenant) (est : Nat), s.job h = some j → j.state = .held →
        s.account j.owner = some a → s.tenants.rd j.owner.tenant = some t →
        est = estimate t.tariff e.descriptor.colour j →
        (grantRefusal a t est = none → s.grantAttempt p = { s with
          sessions := s.sessions.wr p (some { x with release := rest })
          accounts := s.accounts.map fun b => if b.key = j.owner then
            { b with reserved := b.reserved + est, heldJobs := b.heldJobs - 1 } else b
          tenants := s.tenants.wr j.owner.tenant (some { t with poolReserved := t.poolReserved + est })
          jobs := s.jobs.wr h.record ⟨h.generation, some { j with
            state := .granted p (!e.descriptor.colour && decide (j.doneColour < j.declaredColour)) none
            reserved := est }⟩
          printers := s.printers.wr p (.enrolled { e with activeJob := some h })
          positions := s.positions.wr p { s.positions.rd p with grant := true } })
        ∧ (∀ reason, grantRefusal a t est = some reason → ∀ v : State, v = { s with
            sessions := s.sessions.wr p (some { x with
              release := rest
              note := some ⟨reason, j.tag, (match x.note with | some n => n.count | none => 0) + 1⟩ }) } →
          (rest ≠ [] → s.grantAttempt p = v.grantAttempt p) ∧ (rest = [] → s.grantAttempt p = v.returnToShowing p)))
      ∧ ((∀ j, s.job h = some j → j.state ≠ .held) → ∀ v : State, v = { s with
            sessions := s.sessions.wr p (some { x with release := rest }) } →
          (rest ≠ [] → s.grantAttempt p = v.grantAttempt p) ∧ (rest = [] → s.grantAttempt p = v.returnToShowing p)))
    ∧ (∀ (s : State) (p : PrinterNo) (e : Enrolled) (x : Session), s.printers.rd p = .enrolled e →
      s.sessions.rd p = some x → s.returnToShowing p = { s with
        sessions := s.sessions.wr p (some { x with
          releasing := false, release := [], window := some e.descriptor.window })
        positions := s.positions.wr p { s.positions.rd p with showList := true } })
    ∧ ∀ (s : State) (p : PrinterNo),
      (∀ e x, s.printers.rd p = .enrolled e → s.sessions.rd p = some x → x.releasing = false ∨ x.release = []
        ∨ e.service ≠ .inService ∨ e.codes ≠ ⟨0, 0, 0⟩ ∨ e.activeJob ≠ none) → s.grantAttempt p = s

/-- LOGOUT: a SHOWING session, or a RELEASING one without an active job, ends; with an active job its list is dropped,
it stays LOGGED OUT and END SESSION is set; without a session, or logged out already, the report is STALE. JOB START:
the GRANTED active job is PRINTING. JOB RESUMED: the SUSPENDED active job is PRINTING; in any other state either report
is STALE (R65, R96, R98, R158). The line's level after the report is log 8's, and the arbiters' choice at the end log
7's. -/
def Obligations.LogoutStartAndResumeAreTaken : Prop :=
  ∀ (s u : State) (c : ChannelNo) (k : PositionNo) (p : PrinterNo) (body : List Byte) (line : Bool) (e : Enrolled),
    s.Called c k → p = printerAt c k → u = s.heard p false → s.printers.rd p = .enrolled e →
    (body = [] →
      (∀ x, s.sessions.rd p = some x → (x.releasing = false ∨ x.loggedOut = false ∧ e.activeJob = none) →
        exec (.logout c k body line) s = .next (State.serveChannels
          ((u.endSession p .loggedOut).endReport c k line (some .taken))))
      ∧ (∀ x, s.sessions.rd p = some x → x.releasing = true → x.loggedOut = false → e.activeJob ≠ none →
        exec (.logout c k body line) s = .next (State.serveChannels (State.endReport { u with
          sessions := u.sessions.wr p (some { x with release := [], loggedOut := true, note := none })
          positions := u.positions.wr p { u.positions.rd p with
            endSession := true, endReason := some .loggedOut } } c k line (some .taken))))
      ∧ ((∀ x, s.sessions.rd p = some x → x.releasing = true ∧ x.loggedOut = true) →
        exec (.logout c k body line) s = .next (State.serveChannels
          (u.endReport c k line (some (.stale .sessionEnded))))))
    ∧ (∀ h j, body.length = 2 → e.activeJob = some h → handleAt body 0 = h → s.job h = some j →
      (∀ cam timer, j.state = .granted p cam timer → exec (.jobStart c k body line) s = .next (State.serveChannels
        (State.endReport { u with jobs := s.jobs.wr h.record ⟨h.generation, some { j with state := .printing p cam }⟩ }
          c k line (some .taken))))
      ∧ ((∀ cam timer, j.state ≠ .granted p cam timer) → exec (.jobStart c k body line) s = .next (State.serveChannels
        (u.endReport c k line (some (.stale .notActive)))))
      ∧ (∀ cam timer, j.state = .suspended p cam timer → exec (.jobResumed c k body line) s = .next
        (State.serveChannels (State.endReport { u with
          jobs := s.jobs.wr h.record ⟨h.generation, some { j with state := .printing p cam }⟩ }
          c k line (some .taken))))
      ∧ ((∀ cam timer, j.state ≠ .suspended p cam timer) → exec (.jobResumed c k body line) s = .next
        (State.serveChannels (u.endReport c k line (some (.stale .notActive))))))

/-- JOB END: the active job is COMPLETE, DONE or CANCELLED, its reservation given back; it moves to the tail of its
tenant's completion list, the printer has no active job (a DRAINING one becomes DISABLED), and JOB FINISHED is raised.
Then a RELEASING session ends if it is logged out or its list is empty, or the printer is stopped; otherwise the next
grant is attempted. Any other outcome byte is MALFORMED (R4, R67, R97, R114). The arbiters' choice at the end of a step
is log 7's; the line's level after a report is log 8's. -/
def Obligations.JobEndFinishesTheJob : Prop :=
  (∀ (s : State) (h : Handle) (p : PrinterNo) (outcome : JobOutcome) (j : Job) (cam : Bool) (e : Enrolled) (x : Tenant),
      s.job h = some j → j.state.active = some (p, cam) → s.printers.rd p = .enrolled e →
      s.tenants.rd j.owner.tenant = some x → ∃ u : State, s.finish h p outcome = some u
        ∧ u = { s with
            jobs := s.jobs.wr h.record ⟨h.generation, some { j with
              state := .complete outcome s.clock, reserved := 0 }⟩
            accounts := s.accounts.map fun a => if a.key = j.owner then
              { a with reserved := a.reserved - j.reserved } else a
            tenants := s.tenants.wr j.owner.tenant (some { x with poolReserved := x.poolReserved - j.reserved })
            printers := s.printers.wr p (.enrolled { e with
              activeJob := none, service := if e.service = .draining then .disabled else e.service })
            submission := s.submission.filter (· ≠ h.record)
            completions := s.completions.wr j.owner.tenant (s.completions.rd j.owner.tenant ++ [h.record])
            ports := u.ports }
        ∧ u.ports = ((if e.service = .draining then s.raise .printerDisabled toFacilities else s).raise .jobFinished
            (toTenant j.owner.tenant)).ports)
    ∧ (∀ (s u v : State) (c : ChannelNo) (k : PositionNo) (p : PrinterNo) (body : List Byte) (line : Bool) (e : Enrolled)
        (h : Handle) (outcome : JobOutcome),
      s.Called c k → p = printerAt c k → u = s.heard p false → s.printers.rd p = .enrolled e → body.length = 3 →
      e.activeJob = some h → handleAt body 0 = h →
      (u8 body 2 = 1 ∧ outcome = .done ∨ u8 body 2 = 2 ∧ outcome = .cancelled) → u.finish h p outcome = some v →
      exec (.jobEnd c k body line) s = .next (State.serveChannels
        ((v.afterFinish p).endReport c k line (some .taken))))
    ∧ (∀ (s : State) (p : PrinterNo) (e : Enrolled), s.printers.rd p = .enrolled e →
      ((∀ x, s.sessions.rd p = some x → x.releasing = false) → s.afterFinish p = s)
      ∧ ∀ x, s.sessions.rd p = some x → x.releasing = true →
        (x.loggedOut = true → s.afterFinish p = s.endSession p .sessionDone)
        ∧ (x.loggedOut = false → e.codes ≠ ⟨0, 0, 0⟩ → s.afterFinish p = s.endSession p .printerStopped)
        ∧ (x.loggedOut = false → e.codes = ⟨0, 0, 0⟩ → x.release = [] → s.afterFinish p = s.endSession p .sessionDone)
        ∧ (x.loggedOut = false → e.codes = ⟨0, 0, 0⟩ → x.release ≠ [] → s.afterFinish p = s.grantAttempt p))
    ∧ ∀ (s : State) (c : ChannelNo) (k : PositionNo) (body : List Byte) (line : Bool) (e : Enrolled),
      s.Called c k → s.printers.rd (printerAt c k) = .enrolled e → body.length = 3 →
      e.activeJob = some (handleAt body 0) → u8 body 2 ≠ 1 → u8 body 2 ≠ 2 →
      exec (.jobEnd c k body line) s = .next (State.serveChannels
        ((s.heard (printerAt c k) false).endReport c k line (some (.stale .malformed))))

/-! ### Charging and consumables -/

/-- SIDES of the active job, PRINTING or SUSPENDED: the charge of at most 16 sides at the weight of the job's format,
MONO or COLOUR (MONO where COLOUR-AS-MONO is set), drawn from the reservation of job, account and pool together and
charged whole, with the sides done counted; EXHAUSTED flags set where a charged amount reaches its allowance, each with
its event once; then every slot consumes its doses, and an urgent slot raises or upgrades a reorder. A count of 0 does
nothing, and another kind byte is MALFORMED; SIDES of a GRANTED active job is STALE, NOT ACTIVE (R108, R109, R110,
R111, R119, R120, R121, R122, R138, R139, R140). The line's level after the report is log 8's, and the arbiters' choice
at the end log 7's. -/
def Obligations.SidesAreChargedAndConsumed : Prop :=
  (∀ (s u : State) (c : ChannelNo) (k : PositionNo) (p : PrinterNo) (body : List Byte) (line : Bool) (e : Enrolled)
      (h : Handle) (j : Job) (cam : Bool),
      s.Called c k → p = printerAt c k → u = s.heard p false → s.printers.rd p = .enrolled e → body.length = 14 →
      e.activeJob = some h → handleAt body 0 = h → s.job h = some j →
      (j.state = .printing p cam ∨ ∃ timer, j.state = .suspended p cam timer) →
      ((u8 body 2 = 1 ∨ u8 body 2 = 2) → u8 body 3 ≠ 0 →
        exec (.sides c k body line) s = .next (State.serveChannels (State.endReport
          ((u.chargeSides h j cam (decide (u8 body 2 = 2)) (min (u8 body 3) 16)).consumeSides p j.large
            (min (u8 body 3) 16) body) c k line (some .taken))))
      ∧ ((u8 body 2 = 1 ∨ u8 body 2 = 2) → u8 body 3 = 0 → exec (.sides c k body line) s = .next
        (State.serveChannels (u.endReport c k line (some .taken))))
      ∧ (u8 body 2 ≠ 1 → u8 body 2 ≠ 2 → exec (.sides c k body line) s = .next
        (State.serveChannels (u.endReport c k line (some (.stale .malformed))))))
    ∧ (∀ (s : State) (c : ChannelNo) (k : PositionNo) (body : List Byte) (line : Bool) (e : Enrolled) (h : Handle)
        (j : Job) (cam : Bool) (timer : Option Nat),
      s.Called c k → s.printers.rd (printerAt c k) = .enrolled e → body.length = 14 → e.activeJob = some h →
      handleAt body 0 = h → s.job h = some j → j.state = .granted (printerAt c k) cam timer →
      exec (.sides c k body line) s = .next (State.serveChannels
        ((s.heard (printerAt c k) false).endReport c k line (some (.stale .notActive)))))
    ∧ (∀ (s : State) (h : Handle) (j : Job) (cam colour : Bool) (n charge : Nat) (a : Account) (t : Tenant),
      s.job h = some j → s.account j.owner = some a → s.tenants.rd j.owner.tenant = some t →
      (s.accounts.map (·.key)).Nodup →
      charge = n * (if colour = true ∧ cam = false then (if j.large then t.tariff.largeColour else t.tariff.colour)
        else (if j.large then t.tariff.largeMono else t.tariff.mono)) →
      ∃ v : State, s.chargeSides h j cam colour n = v ∧ v = { s with
          jobs := s.jobs.wr h.record ⟨h.generation, some { j with
            reserved := j.reserved - min charge j.reserved
            charged := min (j.charged + charge) 16777215
            doneMono := if colour then j.doneMono else min (j.doneMono + n) 65535
            doneColour := if colour then min (j.doneColour + n) 65535 else j.doneColour }⟩
          accounts := s.accounts.map fun b => if b.key = j.owner then { a with
            reserved := a.reserved - min charge j.reserved
            charged := min (a.charged + charge) 16777215
            exhausted := a.exhausted || reaches a.allowance (min (a.charged + charge) 16777215) } else b
          tenants := s.tenants.wr j.owner.tenant (some { t with
            poolReserved := t.poolReserved - min charge j.reserved
            poolCharged := min (t.poolCharged + charge) 16777215
            poolExhausted := t.poolExhausted || reaches t.poolAllowance (min (t.poolCharged + charge) 16777215) })
          ports := v.ports }
        ∧ ∃ v1 : State,
          v1 = (if a.exhausted = false ∧ reaches a.allowance (min (a.charged + charge) 16777215) = true
            then s.raise .accountExhausted (toTenant j.owner.tenant) else s)
          ∧ v.ports = (if t.poolExhausted = false
              ∧ reaches t.poolAllowance (min (t.poolCharged + charge) 16777215) = true
            then v1.raise .poolExhausted (toTenantAndFacilities j.owner.tenant) else v1).ports)
    ∧ (∀ (s : State) (p : PrinterNo) (large : Bool) (n : Nat) (body : List Byte) (e : Enrolled),
      s.printers.rd p = .enrolled e → ∃ (v : State) (e' : Enrolled), s.consumeSides p large n body = v
        ∧ v = { s with
          printers := s.printers.wr p (.enrolled e'), reorders := v.reorders, reorderCounter := v.reorderCounter
          ports := v.ports }
        ∧ e' = { e with slots := e'.slots } ∧ e'.slots.length = e.slots.length
        ∧ ∀ (i : Nat) (x : Slot), e.slots[i]? = some x →
          e'.slots[i]? = some (x.consume (x.consumption large n (u16 body (4 + 2 * i)))))
    ∧ (∀ (s : State) (p : PrinterNo) (large : Bool) (n : Nat) (body : List Byte) (e : Enrolled),
      s.printers.rd p = .enrolled e → s.consumeSides p large n body = (List.range e.slots.length).foldl
        (fun u i => u.consumeSlot p large n (u16 body (4 + 2 * i)) i) s)
    ∧ (∀ (s : State) (p : PrinterNo) (large : Bool) (n cover i : Nat) (e : Enrolled) (x : Slot),
      s.printers.rd p = .enrolled e → e.slots[i]? = some x →
      s.consumeSlot p large n cover i = State.urgentTest { s with printers := s.printers.wr p (.enrolled { e with
        slots := e.slots.set i (x.consume (x.consumption large n cover)) }) } p i)
    ∧ (∀ (x : Slot) (large : Bool) (n cover d : Nat),
      x.consumption large n cover = (if large then 2 else 1)
        * (if x.kind = .imagingUnit then n * x.overhead else min cover (n * 1000) + n * x.overhead)
      ∧ x.consume d = { x with
        remaining := x.remaining - d, today := min (x.today + d) 16777215
        level := (x.remaining - d) * 100 / x.capacity
        daysToEmpty := if x.rate = 0 then 999 else min ((x.remaining - d) / x.rate) 999 })
    ∧ ∀ (s : State) (p : PrinterNo) (i : Nat) (e : Enrolled) (x : Slot),
      s.printers.rd p = .enrolled e → e.slots[i]? = some x →
      (e.descriptor.floorPercent < x.level ∧ x.remaining ≠ 0 → s.urgentTest p i = s)
      ∧ (x.level ≤ e.descriptor.floorPercent ∨ x.remaining = 0 →
        (s.openReorder p i = none → s.urgentTest p i = State.raise { s with
          reorders := s.reorders
            ++ [⟨s.reorderCounter, p, i, x.kind, .urgent, .raised, s.clock, x.level, none, none⟩]
          reorderCounter := (s.urgentTest p i).reorderCounter } .orderRaised toSupplies)
        ∧ (∀ r, s.openReorder p i = some r → r.urgency = .normal → s.urgentTest p i = State.raise { s with
          reorders := s.reorders.map fun q => if q.number = r.number then { q with urgency := .urgent } else q }
          .orderUrgent toSupplies)
        ∧ (∀ r, s.openReorder p i = some r → r.urgency = .urgent → s.urgentTest p i = s))

/-- CARTRIDGE: identity 0 is a removal, the slot's own identity a reinsertion, and any other a replacement: the slot is
full again with the new identity, its open reorder is FULFILLED or an UNPLANNED record is made, ORDER CLOSED is raised,
and a SUSPENDED job is re-held unless the printer keeps it; a slot the printer has not is MALFORMED (R129, R130, R131,
R141, R160). That the slot's older closed record is freed before an UNPLANNED one takes its number is log 35's. The
arbiters' choice at the end of a step is log 7's; the line's level after a report is log 8's. -/
def Obligations.CartridgeReportsAreTaken : Prop :=
  (∀ (s u : State) (c : ChannelNo) (k : PositionNo) (p : PrinterNo) (body : List Byte) (line : Bool) (e : Enrolled),
      s.Called c k → p = printerAt c k → u = s.heard p false → u.printers.rd p = .enrolled e → body.length = 5 →
      (∀ x, e.slots[u8 body 0]? = some x →
        (u32 body 1 = 0 → exec (.cartridge c k body line) s = .next (State.serveChannels (State.endReport { u with
          printers := u.printers.wr p (.enrolled { e with
            slots := e.slots.set (u8 body 0) { x with present := false } }) } c k line (some .taken))))
        ∧ (u32 body 1 ≠ 0 → u32 body 1 = x.identity →
          exec (.cartridge c k body line) s = .next (State.serveChannels (State.endReport { u with
            printers := u.printers.wr p (.enrolled { e with
              slots := e.slots.set (u8 body 0) { x with present := true } }) } c k line (some .taken))))
        ∧ (u32 body 1 ≠ 0 → u32 body 1 ≠ x.identity → ∀ v : State, v = State.reorderReplaced { u with
            printers := u.printers.wr p (.enrolled { e with slots := e.slots.set (u8 body 0) { x with
              remaining := x.capacity, level := 100
              daysToEmpty := if x.rate = 0 then 999 else min (x.capacity / x.rate) 999
              present := true, identity := u32 body 1 } }) } p (u8 body 0) x →
          exec (.cartridge c k body line) s = .next (State.serveChannels (State.endReport
            (if v.suspendedJob p ≠ none ∧ e.descriptor.swapKeepsJob = false then v.conditionRehold p else v)
            c k line (some .taken)))))
      ∧ (e.slots[u8 body 0]? = none → exec (.cartridge c k body line) s = .next (State.serveChannels
        (u.endReport c k line (some (.stale .malformed))))))
    ∧ ∀ (s : State) (p : PrinterNo) (i : Nat) (x : Slot),
      (∀ r, s.openReorder p i = some r → s.reorderReplaced p i x = State.raise { s with
        reorders := (s.reorders.filter fun q => !(decide (q.printer = p) && decide (q.slot = i) && !q.state.isOpen)).map
          fun q => if q.number = r.number then { q with state := .fulfilled } else q } .orderClosed toSupplies)
      ∧ (s.openReorder p i = none → s.reorderReplaced p i x = State.raise { s with
        reorders := (s.reorders.filter fun q => !(decide (q.printer = p) && decide (q.slot = i) && !q.state.isOpen))
          ++ [⟨s.reorderCounter, p, i, x.kind, .normal, .unplanned, s.clock, x.level, none, none⟩]
        reorderCounter := (s.reorderReplaced p i x).reorderCounter } .orderClosed toSupplies)

/-! ### Reorders -/

/-- TAKE ORDERS answers at most 8 records, URGENT RAISED first, then NORMAL RAISED, then closed, each in list order; a
RAISED record becomes SENT, a closed one is freed, and the rest stay; the answer counts what is left of each (R143).
CONFIRM ORDER: a SENT record is CONFIRMED with the reference and the expected day; CANCEL ORDER: an open record is
CANCELLED and the slot's older closed record is freed, with no event; SET LEAD TIME: each setting clamped or kept, and
both answered. CONFIRM ORDER and CANCEL ORDER refuse number 0, MALFORMED, a number that no record holds, NO SUCH, and a
record in another state, WRONG STATE (R136, R144, R145, R146). What of the QUERY ORDER answer CONFIRM ORDER answers is
log 36's. -/
def Obligations.SupplyOrdersAreWorked : Prop :=
  (
    ∀ (s : State) (port : PortNo) (tag : Byte) (taken : List Reorder), s.Ready port .takeOrders [] →
      (s.reorders.map (·.number)).Nodup →
      taken = ((s.reorders.filter fun r => decide (r.state = .raised) && decide (r.urgency = .urgent))
        ++ (s.reorders.filter fun r => decide (r.state = .raised) && decide (r.urgency = .normal))
        ++ (s.reorders.filter fun r => !r.state.isOpen)).take 8 →
      exec (.takeOrders port tag []) s = .next (State.acceptedWith { s.begun port .takeOrders tag with
          reorders := (s.reorders.filter fun r => !(decide (r ∈ taken) && !r.state.isOpen)).map fun r =>
            if r ∈ taken then { r with state := .sent } else r } port .takeOrders tag
        (be1 taken.length
          ++ be2 ((s.reorders.filter fun r => decide (r.state = .raised)).length
            - (taken.filter fun r => decide (r.state = .raised)).length)
          ++ be2 ((s.reorders.filter fun r => !r.state.isOpen).length - (taken.filter fun r => !r.state.isOpen).length)
          ++ (taken.map fun r => be2 r.number
            ++ be2 (r.printer.val + 64 * r.slot + 512 * r.kind.code + 2048 * r.urgency.code
              + 4096 * (if r.state.isOpen then 1 else r.state.code)
              + 32768 * (if r.state.isOpen = false ∧ r.orderRef ≠ none then 1 else 0))
            ++ clockBytes r.raisedAt ++ be1 r.level
            ++ be4 (match r.state.isOpen, r.orderRef with | false, some w => w | _, _ => 0)).flatten)))
  ∧ (
    (∀ (s : State) (port : PortNo) (tag : Byte) (body : List Byte), s.Ready port .confirmOrder body → body.length = 8 →
        (u16 body 0 = 0 → exec (.confirmOrder port tag body) s
          = .next ((s.begun port .confirmOrder tag).replied port .confirmOrder tag (.refused .malformed) []))
        ∧ (u16 body 0 ≠ 0 → (∀ r ∈ s.reorders, r.number ≠ u16 body 0) → exec (.confirmOrder port tag body) s
          = .next ((s.begun port .confirmOrder tag).replied port .confirmOrder tag (.refused .noSuch) []))
        ∧ ∀ r, u16 body 0 ≠ 0 → r ∈ s.reorders → r.number = u16 body 0 → (s.reorders.map (·.number)).Nodup →
          (r.state ≠ .sent → exec (.confirmOrder port tag body) s
            = .next ((s.begun port .confirmOrder tag).replied port .confirmOrder tag (.refused .wrongState) []))
          ∧ (r.state = .sent → exec (.confirmOrder port tag body) s = .next (State.acceptedWith
            { s.begun port .confirmOrder tag with
              reorders := s.reorders.map fun q => if q.number = u16 body 0 then { r with
                state := .confirmed, orderRef := some (u32 body 2), expectedDay := some (u16 body 6) } else q }
            port .confirmOrder tag (s.orderBody { r with
              state := .confirmed, orderRef := some (u32 body 2), expectedDay := some (u16 body 6) }))))
      ∧ (∀ (s : State) (port : PortNo) (tag : Byte) (body : List Byte), s.Ready port .cancelOrder body → body.length = 2 →
        (u16 body 0 = 0 → exec (.cancelOrder port tag body) s
          = .next ((s.begun port .cancelOrder tag).replied port .cancelOrder tag (.refused .malformed) []))
        ∧ (u16 body 0 ≠ 0 → (∀ r ∈ s.reorders, r.number ≠ u16 body 0) → exec (.cancelOrder port tag body) s
          = .next ((s.begun port .cancelOrder tag).replied port .cancelOrder tag (.refused .noSuch) []))
        ∧ ∀ r, u16 body 0 ≠ 0 → r ∈ s.reorders → r.number = u16 body 0 → (s.reorders.map (·.number)).Nodup →
          (r.state.isOpen = false → exec (.cancelOrder port tag body) s
            = .next ((s.begun port .cancelOrder tag).replied port .cancelOrder tag (.refused .wrongState) []))
          ∧ (r.state.isOpen = true → exec (.cancelOrder port tag body) s = .next (State.acceptedWith
            { s.begun port .cancelOrder tag with
              reorders := (s.reorders.filter fun q =>
                  !(decide (q.printer = r.printer) && decide (q.slot = r.slot) && !q.state.isOpen)).map fun q =>
                if q.number = r.number then { q with state := .cancelled } else q } port .cancelOrder tag [])))
      ∧ (∀ (s : State) (port : PortNo) (tag : Byte) (body : List Byte) (lead safety : Nat),
        s.Ready port .setLeadTime body → body.length = 4 →
        (u8 body 0 = 0 ∧ lead = max 1 (min (u8 body 1) 90) ∨ u8 body 0 = 3 ∧ lead = s.leadDays) →
        (u8 body 2 = 0 ∧ safety = max 0 (min (u8 body 3) 30) ∨ u8 body 2 = 3 ∧ safety = s.safetyDays) →
        exec (.setLeadTime port tag body) s = .next (State.acceptedWith { s.begun port .setLeadTime tag with
          leadDays := lead, safetyDays := safety } port .setLeadTime tag (be1 lead ++ be1 safety))))

/-! ### Conditions and callouts -/

/-- CONDITION: code 0 clears its class, with its grace timer and its callout; a code on a clear class is stored and its
grace timer starts; a different code replaces it and is taken by an OPEN or DISPATCHED callout; the same code changes
nothing but the slot-empty hand-off. A raised or replaced code has the stop effects: a PRINTING job is SUSPENDED on a
RESUMABLE printer and re-held on another, a GRANTED one is re-held, a SUSPENDED one is left unless the code is NO
ANSWER, and a SHOWING session ends. A class byte outside 1-3 and NO ANSWER itself are MALFORMED (R127, R152, R153,
R154, R155, R157, R165; log 10, log 15). The arbiters' choice at the end of a step is log 7's; the line's level after a
report is log 8's. -/
def Obligations.ConditionsAreRaisedAndCleared : Prop :=
  (∀ (s u : State) (c : ChannelNo) (k : PositionNo) (p : PrinterNo) (body : List Byte) (line : Bool) (e : Enrolled)
      (cls : CondClass) (code : Byte),
      s.Called c k → p = printerAt c k → s.printers.rd p = .enrolled e → body.length = 2 →
      u8 body 0 = condClassCode cls → u8 body 1 = code.toNat →
      u = (if cls = .service then { s with positions := s.positions.wr p { s.positions.rd p with silence := some 20 } }
        else s.heard p false) →
      (code = 0 → exec (.condition c k body line) s = .next (State.serveChannels
        ((u.clearClass p cls).endReport c k line (some .taken))))
      ∧ (code ≠ 0 → ¬ (cls = .service ∧ code = 255) → exec (.condition c k body line) s = .next (State.serveChannels
        ((u.raiseCode p cls code false).endReport c k line (some .taken))))
      ∧ (cls = .service → code = 255 → exec (.condition c k body line) s = .next (State.serveChannels
        (u.endReport c k line (some (.stale .malformed))))))
    ∧ (∀ (s : State) (c : ChannelNo) (k : PositionNo) (body : List Byte) (line : Bool) (e : Enrolled),
      s.Called c k → s.printers.rd (printerAt c k) = .enrolled e → body.length = 2 →
      (u8 body 0 = 0 ∨ 3 < u8 body 0) → exec (.condition c k body line) s = .next (State.serveChannels
        ((s.heard (printerAt c k) false).endReport c k line (some (.stale .malformed)))))
    ∧ (∀ (s : State) (p : PrinterNo) (cls : CondClass) (code : Byte) (noAnswer : Bool) (e : Enrolled) (v : State),
      s.printers.rd p = .enrolled e →
      (e.codes.get cls = 0 → s.raiseCode p cls code noAnswer = (State.handSlotEmpty { s with
          printers := s.printers.wr p (.enrolled { e with
            codes := e.codes.set cls code, grace := e.grace.set cls (some (e.descriptor.grace.get cls)) }) } p cls
          code).stopEffects p noAnswer)
      ∧ (e.codes.get cls ≠ 0 → e.codes.get cls = code → s.raiseCode p cls code noAnswer = s.handSlotEmpty p cls code)
      ∧ (e.codes.get cls ≠ 0 → e.codes.get cls ≠ code → v = State.handSlotEmpty { s with
          printers := s.printers.wr p (.enrolled { e with codes := e.codes.set cls code }) } p cls code →
        (∀ y, s.callouts.rd (calloutNo p cls) = some y → y.state ≠ .cleared →
          s.raiseCode p cls code noAnswer = (v.setCallout p cls (some { y with
            code := code, reorder := v.linkedReorder p cls code })).stopEffects p noAnswer)
        ∧ ((∀ y, s.callouts.rd (calloutNo p cls) = some y → y.state = .cleared) →
          s.raiseCode p cls code noAnswer = v.stopEffects p noAnswer))
      ∧ (e.codes.get cls ≠ 0 → s.clearClass p cls = State.clearCallout { s with
          printers := s.printers.wr p (.enrolled { e with
            codes := e.codes.set cls 0, grace := e.grace.set cls none }) } p cls)
      ∧ (e.codes.get cls = 0 → s.clearClass p cls = s))
    ∧ (∀ (s : State) (p : PrinterNo) (i : Nat) (e : Enrolled) (x : Slot), i < 5 → s.printers.rd p = .enrolled e →
      e.slots[i]? = some x → s.handSlotEmpty p .supply (BitVec.ofNat 8 (i + 1)) = State.urgentTest { s with
        printers := s.printers.wr p (.enrolled { e with slots := e.slots.set i { x with
          remaining := 0, level := 0, daysToEmpty := if x.rate = 0 then 999 else 0 } }) } p i)
    ∧ (∀ (s : State) (p : PrinterNo) (noAnswer : Bool) (e : Enrolled), s.printers.rd p = .enrolled e →
      ∃ v : State, s.stopEffects p noAnswer = (match v.sessions.rd p with
          | some x => if x.releasing then v else v.endSession p .printerStopped
          | none => v)
        ∧ (e.activeJob = none → v = s)
        ∧ ∀ h j, e.activeJob = some h → s.job h = some j →
          (∀ cam timer, j.state = .granted p cam timer → v = s.conditionRehold p)
          ∧ (∀ cam, j.state = .printing p cam → e.descriptor.resumable = true → v = { s with
            jobs := s.jobs.wr h.record ⟨h.generation, some { j with
              state := .suspended p cam e.descriptor.suspendLimit }⟩ })
          ∧ (∀ cam, j.state = .printing p cam → e.descriptor.resumable = false → v = s.conditionRehold p)
          ∧ (∀ cam timer, j.state = .suspended p cam timer →
            v = if noAnswer then s.conditionRehold p else s))

/-- ACKNOWLEDGE CALLOUT: an OPEN record is DISPATCHED and the lines follow; CLOSE CALLOUT: a CLEARED record is freed;
any other state is WRONG STATE, a number without a record NO SUCH, and one outside 0-191 MALFORMED (R166, R167, R168).
-/
def Obligations.CalloutsAreAcknowledgedAndClosed : Prop :=
  (∀ (s : State) (port : PortNo) (tag : Byte) (body : List Byte) (n : CalloutNo) (x : Callout),
      body.length = 2 → u16 body 0 = n.val → s.callouts.rd n = some x →
      (s.Ready port .acknowledgeCallout body →
        (x.state = .opened → ∃ (b : List Byte) (t : State), exec (.acknowledgeCallout port tag body) s
            = .next (t.acceptedWith port .acknowledgeCallout tag b)
          ∧ b = s.calloutBody n { x with state := .dispatched }
          ∧ t = { s.begun port .acknowledgeCallout tag with
            callouts := s.callouts.wr n (some { x with state := .dispatched }), lines := t.lines }
          ∧ t.lines = s.lines.set (calloutClass n) (anyOpenCallout t.callouts (calloutClass n)))
        ∧ (x.state ≠ .opened → exec (.acknowledgeCallout port tag body) s = .next
          ((s.begun port .acknowledgeCallout tag).replied port .acknowledgeCallout tag (.refused .wrongState) [])))
      ∧ (s.Ready port .closeCallout body →
        (x.state = .cleared → ∃ t : State, exec (.closeCallout port tag body) s
            = .next (t.acceptedWith port .closeCallout tag (be2 n.val))
          ∧ t = { s.begun port .closeCallout tag with callouts := s.callouts.wr n none, lines := t.lines }
          ∧ t.lines = s.lines.set (calloutClass n) (anyOpenCallout t.callouts (calloutClass n)))
        ∧ (x.state ≠ .cleared → exec (.closeCallout port tag body) s = .next
          ((s.begun port .closeCallout tag).replied port .closeCallout tag (.refused .wrongState) []))))
    ∧ (∀ (s : State) (port : PortNo) (tag : Byte) (body : List Byte), body.length = 2 →
      (s.Ready port .acknowledgeCallout body →
        ((∀ n : CalloutNo, u16 body 0 = n.val → s.callouts.rd n = none) → u16 body 0 < 192 →
          exec (.acknowledgeCallout port tag body) s = .next
            ((s.begun port .acknowledgeCallout tag).replied port .acknowledgeCallout tag (.refused .noSuch) []))
        ∧ (192 ≤ u16 body 0 → exec (.acknowledgeCallout port tag body) s = .next
            ((s.begun port .acknowledgeCallout tag).replied port .acknowledgeCallout tag (.refused .malformed) [])))
      ∧ (s.Ready port .closeCallout body →
        ((∀ n : CalloutNo, u16 body 0 = n.val → s.callouts.rd n = none) → u16 body 0 < 192 →
          exec (.closeCallout port tag body) s = .next
            ((s.begun port .closeCallout tag).replied port .closeCallout tag (.refused .noSuch) []))
        ∧ (192 ≤ u16 body 0 → exec (.closeCallout port tag body) s = .next
            ((s.begun port .closeCallout tag).replied port .closeCallout tag (.refused .malformed) []))))
    ∧ ∀ (callouts : Table 192 (Option Callout)) (cls : CondClass), anyOpenCallout callouts cls = true ↔
      ∃ n x, calloutClass n = cls ∧ callouts.rd n = some x ∧ x.state = .opened
end

