-- ==== Sys2Proof/Laws/Table.lean ====
section
/-! SUPPORT. What reading a table after each way of making one gives. -/

namespace Sys2Proof

variable {n : Nat} {α β : Type}

@[simp] theorem Table.rd_wr_self (t : Table n α) (i : Fin n) (a : α) : (t.wr i a).rd i = a := by
  simp [Table.rd, Table.wr]

theorem Table.rd_wr_of_ne (t : Table n α) {i j : Fin n} (a : α) (h : i ≠ j) : (t.wr i a).rd j = t.rd j := by
  have h' : i.val ≠ j.val := fun e => h (Fin.ext e)
  simp [Table.rd, Table.wr, h']

theorem Table.rd_wr (t : Table n α) (i j : Fin n) (a : α) :
    (t.wr i a).rd j = if i = j then a else t.rd j := by
  split
  · next h => subst h; simp
  · next h => exact t.rd_wr_of_ne a h

@[simp] theorem Table.rd_tab (f : Fin n → α) (i : Fin n) : (Table.tab f).rd i = f i := by
  simp [Table.rd, Table.tab]

@[simp] theorem Table.rd_fill (a : α) (i : Fin n) : (Table.fill n a).rd i = a := by
  simp [Table.rd, Table.fill]

@[simp] theorem Table.rd_map (f : α → β) (t : Table n α) (i : Fin n) : (t.map f).rd i = f (t.rd i) := by
  simp [Table.rd, Table.map]

/-- Tables that read the same everywhere are equal. -/
theorem Table.ext_rd {s t : Table n α} (h : ∀ i, s.rd i = t.rd i) : s = t := by
  obtain ⟨a, ha⟩ := s
  obtain ⟨b, hb⟩ := t
  have : a = b := by
    apply List.ext_getElem (by rw [ha, hb])
    intro i h1 h2
    exact h ⟨i, ha ▸ h1⟩
  subst this
  rfl

@[simp] theorem Table.wr_rd_self (t : Table n α) (i : Fin n) : t.wr i (t.rd i) = t :=
  Table.ext_rd fun j => by
    rw [Table.rd_wr]
    split
    · next h => rw [h]
    · rfl

@[simp] theorem Table.wr_wr_self (t : Table n α) (i : Fin n) (a b : α) : (t.wr i a).wr i b = t.wr i b :=
  Table.ext_rd fun j => by
    simp only [Table.rd_wr]
    split <;> rfl

/-- What stands in a table is what some number reads. -/
theorem Table.mem_cells {t : Table n α} {a : α} : a ∈ t.cells ↔ ∃ i, t.rd i = a := by
  constructor
  · intro h
    obtain ⟨i, hi, rfl⟩ := List.mem_iff_getElem.mp h
    exact ⟨⟨i, t.size ▸ hi⟩, rfl⟩
  · rintro ⟨i, rfl⟩
    exact List.getElem_mem _

end Sys2Proof
end

