-- ==== Sys2Proof/Laws/State.lean ====
section
/-! SUPPORT. One lemma per field for each shared update of the state, true by `rfl`, so that no proof unfolds a record
update; and the same for the two updates of a record that may be absent. -/

namespace Sys2Proof.Machine

variable (s : State)

@[simp] theorem State.setPrinter_printers (p : PrinterNo) (x : Printer) :
    (s.setPrinter p x).printers =
      s.printers.wr p x := rfl
@[simp] theorem State.setPrinter_channels (p : PrinterNo) (x : Printer) :
    (s.setPrinter p x).channels =
      s.channels := rfl
@[simp] theorem State.setPrinter_positions (p : PrinterNo) (x : Printer) :
    (s.setPrinter p x).positions =
      s.positions := rfl
@[simp] theorem State.setPrinter_serviceLines (p : PrinterNo) (x : Printer) :
    (s.setPrinter p x).serviceLines =
      s.serviceLines := rfl
@[simp] theorem State.setPrinter_reportAnswers (p : PrinterNo) (x : Printer) :
    (s.setPrinter p x).reportAnswers =
      s.reportAnswers := rfl
@[simp] theorem State.setPrinter_tenants (p : PrinterNo) (x : Printer) : (s.setPrinter p x).tenants = s.tenants := rfl
@[simp] theorem State.setPrinter_accounts (p : PrinterNo) (x : Printer) :
    (s.setPrinter p x).accounts =
      s.accounts := rfl
@[simp] theorem State.setPrinter_jobs (p : PrinterNo) (x : Printer) : (s.setPrinter p x).jobs = s.jobs := rfl
@[simp] theorem State.setPrinter_freeList (p : PrinterNo) (x : Printer) :
    (s.setPrinter p x).freeList =
      s.freeList := rfl
@[simp] theorem State.setPrinter_submission (p : PrinterNo) (x : Printer) :
    (s.setPrinter p x).submission =
      s.submission := rfl
@[simp] theorem State.setPrinter_completions (p : PrinterNo) (x : Printer) :
    (s.setPrinter p x).completions =
      s.completions := rfl
@[simp] theorem State.setPrinter_sessions (p : PrinterNo) (x : Printer) :
    (s.setPrinter p x).sessions =
      s.sessions := rfl
@[simp] theorem State.setPrinter_reorders (p : PrinterNo) (x : Printer) :
    (s.setPrinter p x).reorders =
      s.reorders := rfl
@[simp] theorem State.setPrinter_reorderCounter (p : PrinterNo) (x : Printer) :
    (s.setPrinter p x).reorderCounter =
      s.reorderCounter := rfl
@[simp] theorem State.setPrinter_leadDays (p : PrinterNo) (x : Printer) :
    (s.setPrinter p x).leadDays =
      s.leadDays := rfl
@[simp] theorem State.setPrinter_safetyDays (p : PrinterNo) (x : Printer) :
    (s.setPrinter p x).safetyDays =
      s.safetyDays := rfl
@[simp] theorem State.setPrinter_callouts (p : PrinterNo) (x : Printer) :
    (s.setPrinter p x).callouts =
      s.callouts := rfl
@[simp] theorem State.setPrinter_lines (p : PrinterNo) (x : Printer) : (s.setPrinter p x).lines = s.lines := rfl
@[simp] theorem State.setPrinter_ports (p : PrinterNo) (x : Printer) : (s.setPrinter p x).ports = s.ports := rfl
@[simp] theorem State.setPrinter_clock (p : PrinterNo) (x : Printer) : (s.setPrinter p x).clock = s.clock := rfl
@[simp] theorem State.setPrinter_minuteMarksDue (p : PrinterNo) (x : Printer) :
    (s.setPrinter p x).minuteMarksDue =
      s.minuteMarksDue := rfl
@[simp] theorem State.setPrinter_dayClosesDue (p : PrinterNo) (x : Printer) :
    (s.setPrinter p x).dayClosesDue =
      s.dayClosesDue := rfl
@[simp] theorem State.setPrinter_lastMinuteMark (p : PrinterNo) (x : Printer) :
    (s.setPrinter p x).lastMinuteMark =
      s.lastMinuteMark := rfl
@[simp] theorem State.setPrinter_draws (p : PrinterNo) (x : Printer) : (s.setPrinter p x).draws = s.draws := rfl
@[simp] theorem State.setPrinter_pending (p : PrinterNo) (x : Printer) : (s.setPrinter p x).pending = s.pending := rfl

@[simp] theorem State.setEnrolled_printers (p : PrinterNo) (e : Enrolled) :
    (s.setEnrolled p e).printers =
      s.printers.wr p (.enrolled e) := rfl
@[simp] theorem State.setEnrolled_channels (p : PrinterNo) (e : Enrolled) :
    (s.setEnrolled p e).channels =
      s.channels := rfl
@[simp] theorem State.setEnrolled_positions (p : PrinterNo) (e : Enrolled) :
    (s.setEnrolled p e).positions =
      s.positions := rfl
@[simp] theorem State.setEnrolled_serviceLines (p : PrinterNo) (e : Enrolled) :
    (s.setEnrolled p e).serviceLines =
      s.serviceLines := rfl
@[simp] theorem State.setEnrolled_reportAnswers (p : PrinterNo) (e : Enrolled) :
    (s.setEnrolled p e).reportAnswers =
      s.reportAnswers := rfl
@[simp] theorem State.setEnrolled_tenants (p : PrinterNo) (e : Enrolled) :
    (s.setEnrolled p e).tenants =
      s.tenants := rfl
@[simp] theorem State.setEnrolled_accounts (p : PrinterNo) (e : Enrolled) :
    (s.setEnrolled p e).accounts =
      s.accounts := rfl
@[simp] theorem State.setEnrolled_jobs (p : PrinterNo) (e : Enrolled) : (s.setEnrolled p e).jobs = s.jobs := rfl
@[simp] theorem State.setEnrolled_freeList (p : PrinterNo) (e : Enrolled) :
    (s.setEnrolled p e).freeList =
      s.freeList := rfl
@[simp] theorem State.setEnrolled_submission (p : PrinterNo) (e : Enrolled) :
    (s.setEnrolled p e).submission =
      s.submission := rfl
@[simp] theorem State.setEnrolled_completions (p : PrinterNo) (e : Enrolled) :
    (s.setEnrolled p e).completions =
      s.completions := rfl
@[simp] theorem State.setEnrolled_sessions (p : PrinterNo) (e : Enrolled) :
    (s.setEnrolled p e).sessions =
      s.sessions := rfl
@[simp] theorem State.setEnrolled_reorders (p : PrinterNo) (e : Enrolled) :
    (s.setEnrolled p e).reorders =
      s.reorders := rfl
@[simp] theorem State.setEnrolled_reorderCounter (p : PrinterNo) (e : Enrolled) :
    (s.setEnrolled p e).reorderCounter =
      s.reorderCounter := rfl
@[simp] theorem State.setEnrolled_leadDays (p : PrinterNo) (e : Enrolled) :
    (s.setEnrolled p e).leadDays =
      s.leadDays := rfl
@[simp] theorem State.setEnrolled_safetyDays (p : PrinterNo) (e : Enrolled) :
    (s.setEnrolled p e).safetyDays =
      s.safetyDays := rfl
@[simp] theorem State.setEnrolled_callouts (p : PrinterNo) (e : Enrolled) :
    (s.setEnrolled p e).callouts =
      s.callouts := rfl
@[simp] theorem State.setEnrolled_lines (p : PrinterNo) (e : Enrolled) : (s.setEnrolled p e).lines = s.lines := rfl
@[simp] theorem State.setEnrolled_ports (p : PrinterNo) (e : Enrolled) : (s.setEnrolled p e).ports = s.ports := rfl
@[simp] theorem State.setEnrolled_clock (p : PrinterNo) (e : Enrolled) : (s.setEnrolled p e).clock = s.clock := rfl
@[simp] theorem State.setEnrolled_minuteMarksDue (p : PrinterNo) (e : Enrolled) :
    (s.setEnrolled p e).minuteMarksDue =
      s.minuteMarksDue := rfl
@[simp] theorem State.setEnrolled_dayClosesDue (p : PrinterNo) (e : Enrolled) :
    (s.setEnrolled p e).dayClosesDue =
      s.dayClosesDue := rfl
@[simp] theorem State.setEnrolled_lastMinuteMark (p : PrinterNo) (e : Enrolled) :
    (s.setEnrolled p e).lastMinuteMark =
      s.lastMinuteMark := rfl
@[simp] theorem State.setEnrolled_draws (p : PrinterNo) (e : Enrolled) : (s.setEnrolled p e).draws = s.draws := rfl
@[simp] theorem State.setEnrolled_pending (p : PrinterNo) (e : Enrolled) :
    (s.setEnrolled p e).pending =
      s.pending := rfl

@[simp] theorem State.setChannel_printers (c : ChannelNo) (x : Channel) :
    (s.setChannel c x).printers =
      s.printers := rfl
@[simp] theorem State.setChannel_channels (c : ChannelNo) (x : Channel) :
    (s.setChannel c x).channels =
      s.channels.wr c x := rfl
@[simp] theorem State.setChannel_positions (c : ChannelNo) (x : Channel) :
    (s.setChannel c x).positions =
      s.positions := rfl
@[simp] theorem State.setChannel_serviceLines (c : ChannelNo) (x : Channel) :
    (s.setChannel c x).serviceLines =
      s.serviceLines := rfl
@[simp] theorem State.setChannel_reportAnswers (c : ChannelNo) (x : Channel) :
    (s.setChannel c x).reportAnswers =
      s.reportAnswers := rfl
@[simp] theorem State.setChannel_tenants (c : ChannelNo) (x : Channel) : (s.setChannel c x).tenants = s.tenants := rfl
@[simp] theorem State.setChannel_accounts (c : ChannelNo) (x : Channel) :
    (s.setChannel c x).accounts =
      s.accounts := rfl
@[simp] theorem State.setChannel_jobs (c : ChannelNo) (x : Channel) : (s.setChannel c x).jobs = s.jobs := rfl
@[simp] theorem State.setChannel_freeList (c : ChannelNo) (x : Channel) :
    (s.setChannel c x).freeList =
      s.freeList := rfl
@[simp] theorem State.setChannel_submission (c : ChannelNo) (x : Channel) :
    (s.setChannel c x).submission =
      s.submission := rfl
@[simp] theorem State.setChannel_completions (c : ChannelNo) (x : Channel) :
    (s.setChannel c x).completions =
      s.completions := rfl
@[simp] theorem State.setChannel_sessions (c : ChannelNo) (x : Channel) :
    (s.setChannel c x).sessions =
      s.sessions := rfl
@[simp] theorem State.setChannel_reorders (c : ChannelNo) (x : Channel) :
    (s.setChannel c x).reorders =
      s.reorders := rfl
@[simp] theorem State.setChannel_reorderCounter (c : ChannelNo) (x : Channel) :
    (s.setChannel c x).reorderCounter =
      s.reorderCounter := rfl
@[simp] theorem State.setChannel_leadDays (c : ChannelNo) (x : Channel) :
    (s.setChannel c x).leadDays =
      s.leadDays := rfl
@[simp] theorem State.setChannel_safetyDays (c : ChannelNo) (x : Channel) :
    (s.setChannel c x).safetyDays =
      s.safetyDays := rfl
@[simp] theorem State.setChannel_callouts (c : ChannelNo) (x : Channel) :
    (s.setChannel c x).callouts =
      s.callouts := rfl
@[simp] theorem State.setChannel_lines (c : ChannelNo) (x : Channel) : (s.setChannel c x).lines = s.lines := rfl
@[simp] theorem State.setChannel_ports (c : ChannelNo) (x : Channel) : (s.setChannel c x).ports = s.ports := rfl
@[simp] theorem State.setChannel_clock (c : ChannelNo) (x : Channel) : (s.setChannel c x).clock = s.clock := rfl
@[simp] theorem State.setChannel_minuteMarksDue (c : ChannelNo) (x : Channel) :
    (s.setChannel c x).minuteMarksDue =
      s.minuteMarksDue := rfl
@[simp] theorem State.setChannel_dayClosesDue (c : ChannelNo) (x : Channel) :
    (s.setChannel c x).dayClosesDue =
      s.dayClosesDue := rfl
@[simp] theorem State.setChannel_lastMinuteMark (c : ChannelNo) (x : Channel) :
    (s.setChannel c x).lastMinuteMark =
      s.lastMinuteMark := rfl
@[simp] theorem State.setChannel_draws (c : ChannelNo) (x : Channel) : (s.setChannel c x).draws = s.draws := rfl
@[simp] theorem State.setChannel_pending (c : ChannelNo) (x : Channel) : (s.setChannel c x).pending = s.pending := rfl

@[simp] theorem State.setPosition_printers (p : PrinterNo) (x : Position) :
    (s.setPosition p x).printers =
      s.printers := rfl
@[simp] theorem State.setPosition_channels (p : PrinterNo) (x : Position) :
    (s.setPosition p x).channels =
      s.channels := rfl
@[simp] theorem State.setPosition_positions (p : PrinterNo) (x : Position) :
    (s.setPosition p x).positions =
      s.positions.wr p x := rfl
@[simp] theorem State.setPosition_serviceLines (p : PrinterNo) (x : Position) :
    (s.setPosition p x).serviceLines =
      s.serviceLines := rfl
@[simp] theorem State.setPosition_reportAnswers (p : PrinterNo) (x : Position) :
    (s.setPosition p x).reportAnswers =
      s.reportAnswers := rfl
@[simp] theorem State.setPosition_tenants (p : PrinterNo) (x : Position) :
    (s.setPosition p x).tenants =
      s.tenants := rfl
@[simp] theorem State.setPosition_accounts (p : PrinterNo) (x : Position) :
    (s.setPosition p x).accounts =
      s.accounts := rfl
@[simp] theorem State.setPosition_jobs (p : PrinterNo) (x : Position) : (s.setPosition p x).jobs = s.jobs := rfl
@[simp] theorem State.setPosition_freeList (p : PrinterNo) (x : Position) :
    (s.setPosition p x).freeList =
      s.freeList := rfl
@[simp] theorem State.setPosition_submission (p : PrinterNo) (x : Position) :
    (s.setPosition p x).submission =
      s.submission := rfl
@[simp] theorem State.setPosition_completions (p : PrinterNo) (x : Position) :
    (s.setPosition p x).completions =
      s.completions := rfl
@[simp] theorem State.setPosition_sessions (p : PrinterNo) (x : Position) :
    (s.setPosition p x).sessions =
      s.sessions := rfl
@[simp] theorem State.setPosition_reorders (p : PrinterNo) (x : Position) :
    (s.setPosition p x).reorders =
      s.reorders := rfl
@[simp] theorem State.setPosition_reorderCounter (p : PrinterNo) (x : Position) :
    (s.setPosition p x).reorderCounter =
      s.reorderCounter := rfl
@[simp] theorem State.setPosition_leadDays (p : PrinterNo) (x : Position) :
    (s.setPosition p x).leadDays =
      s.leadDays := rfl
@[simp] theorem State.setPosition_safetyDays (p : PrinterNo) (x : Position) :
    (s.setPosition p x).safetyDays =
      s.safetyDays := rfl
@[simp] theorem State.setPosition_callouts (p : PrinterNo) (x : Position) :
    (s.setPosition p x).callouts =
      s.callouts := rfl
@[simp] theorem State.setPosition_lines (p : PrinterNo) (x : Position) : (s.setPosition p x).lines = s.lines := rfl
@[simp] theorem State.setPosition_ports (p : PrinterNo) (x : Position) : (s.setPosition p x).ports = s.ports := rfl
@[simp] theorem State.setPosition_clock (p : PrinterNo) (x : Position) : (s.setPosition p x).clock = s.clock := rfl
@[simp] theorem State.setPosition_minuteMarksDue (p : PrinterNo) (x : Position) :
    (s.setPosition p x).minuteMarksDue =
      s.minuteMarksDue := rfl
@[simp] theorem State.setPosition_dayClosesDue (p : PrinterNo) (x : Position) :
    (s.setPosition p x).dayClosesDue =
      s.dayClosesDue := rfl
@[simp] theorem State.setPosition_lastMinuteMark (p : PrinterNo) (x : Position) :
    (s.setPosition p x).lastMinuteMark =
      s.lastMinuteMark := rfl
@[simp] theorem State.setPosition_draws (p : PrinterNo) (x : Position) : (s.setPosition p x).draws = s.draws := rfl
@[simp] theorem State.setPosition_pending (p : PrinterNo) (x : Position) :
    (s.setPosition p x).pending =
      s.pending := rfl

@[simp] theorem State.setMark_printers (p : PrinterNo) (k : MarkKind) : (s.setMark p k).printers = s.printers := rfl
@[simp] theorem State.setMark_channels (p : PrinterNo) (k : MarkKind) : (s.setMark p k).channels = s.channels := rfl
@[simp] theorem State.setMark_positions (p : PrinterNo) (k : MarkKind) :
    (s.setMark p k).positions =
      s.positions.wr p ((s.positions.rd p).withMark k true) := rfl
@[simp] theorem State.setMark_serviceLines (p : PrinterNo) (k : MarkKind) :
    (s.setMark p k).serviceLines =
      s.serviceLines := rfl
@[simp] theorem State.setMark_reportAnswers (p : PrinterNo) (k : MarkKind) :
    (s.setMark p k).reportAnswers =
      s.reportAnswers := rfl
@[simp] theorem State.setMark_tenants (p : PrinterNo) (k : MarkKind) : (s.setMark p k).tenants = s.tenants := rfl
@[simp] theorem State.setMark_accounts (p : PrinterNo) (k : MarkKind) : (s.setMark p k).accounts = s.accounts := rfl
@[simp] theorem State.setMark_jobs (p : PrinterNo) (k : MarkKind) : (s.setMark p k).jobs = s.jobs := rfl
@[simp] theorem State.setMark_freeList (p : PrinterNo) (k : MarkKind) : (s.setMark p k).freeList = s.freeList := rfl
@[simp] theorem State.setMark_submission (p : PrinterNo) (k : MarkKind) :
    (s.setMark p k).submission =
      s.submission := rfl
@[simp] theorem State.setMark_completions (p : PrinterNo) (k : MarkKind) :
    (s.setMark p k).completions =
      s.completions := rfl
@[simp] theorem State.setMark_sessions (p : PrinterNo) (k : MarkKind) : (s.setMark p k).sessions = s.sessions := rfl
@[simp] theorem State.setMark_reorders (p : PrinterNo) (k : MarkKind) : (s.setMark p k).reorders = s.reorders := rfl
@[simp] theorem State.setMark_reorderCounter (p : PrinterNo) (k : MarkKind) :
    (s.setMark p k).reorderCounter =
      s.reorderCounter := rfl
@[simp] theorem State.setMark_leadDays (p : PrinterNo) (k : MarkKind) : (s.setMark p k).leadDays = s.leadDays := rfl
@[simp] theorem State.setMark_safetyDays (p : PrinterNo) (k : MarkKind) :
    (s.setMark p k).safetyDays =
      s.safetyDays := rfl
@[simp] theorem State.setMark_callouts (p : PrinterNo) (k : MarkKind) : (s.setMark p k).callouts = s.callouts := rfl
@[simp] theorem State.setMark_lines (p : PrinterNo) (k : MarkKind) : (s.setMark p k).lines = s.lines := rfl
@[simp] theorem State.setMark_ports (p : PrinterNo) (k : MarkKind) : (s.setMark p k).ports = s.ports := rfl
@[simp] theorem State.setMark_clock (p : PrinterNo) (k : MarkKind) : (s.setMark p k).clock = s.clock := rfl
@[simp] theorem State.setMark_minuteMarksDue (p : PrinterNo) (k : MarkKind) :
    (s.setMark p k).minuteMarksDue =
      s.minuteMarksDue := rfl
@[simp] theorem State.setMark_dayClosesDue (p : PrinterNo) (k : MarkKind) :
    (s.setMark p k).dayClosesDue =
      s.dayClosesDue := rfl
@[simp] theorem State.setMark_lastMinuteMark (p : PrinterNo) (k : MarkKind) :
    (s.setMark p k).lastMinuteMark =
      s.lastMinuteMark := rfl
@[simp] theorem State.setMark_draws (p : PrinterNo) (k : MarkKind) : (s.setMark p k).draws = s.draws := rfl
@[simp] theorem State.setMark_pending (p : PrinterNo) (k : MarkKind) : (s.setMark p k).pending = s.pending := rfl

@[simp] theorem State.setEndSession_printers (p : PrinterNo) (r : EndReason) :
    (s.setEndSession p r).printers =
      s.printers := rfl
@[simp] theorem State.setEndSession_channels (p : PrinterNo) (r : EndReason) :
    (s.setEndSession p r).channels =
      s.channels := rfl
@[simp] theorem State.setEndSession_positions (p : PrinterNo) (r : EndReason) :
    (s.setEndSession p r).positions =
      s.positions.wr p { s.positions.rd p with endSession := true, endReason := some r } := rfl
@[simp] theorem State.setEndSession_serviceLines (p : PrinterNo) (r : EndReason) :
    (s.setEndSession p r).serviceLines =
      s.serviceLines := rfl
@[simp] theorem State.setEndSession_reportAnswers (p : PrinterNo) (r : EndReason) :
    (s.setEndSession p r).reportAnswers =
      s.reportAnswers := rfl
@[simp] theorem State.setEndSession_tenants (p : PrinterNo) (r : EndReason) :
    (s.setEndSession p r).tenants =
      s.tenants := rfl
@[simp] theorem State.setEndSession_accounts (p : PrinterNo) (r : EndReason) :
    (s.setEndSession p r).accounts =
      s.accounts := rfl
@[simp] theorem State.setEndSession_jobs (p : PrinterNo) (r : EndReason) : (s.setEndSession p r).jobs = s.jobs := rfl
@[simp] theorem State.setEndSession_freeList (p : PrinterNo) (r : EndReason) :
    (s.setEndSession p r).freeList =
      s.freeList := rfl
@[simp] theorem State.setEndSession_submission (p : PrinterNo) (r : EndReason) :
    (s.setEndSession p r).submission =
      s.submission := rfl
@[simp] theorem State.setEndSession_completions (p : PrinterNo) (r : EndReason) :
    (s.setEndSession p r).completions =
      s.completions := rfl
@[simp] theorem State.setEndSession_sessions (p : PrinterNo) (r : EndReason) :
    (s.setEndSession p r).sessions =
      s.sessions := rfl
@[simp] theorem State.setEndSession_reorders (p : PrinterNo) (r : EndReason) :
    (s.setEndSession p r).reorders =
      s.reorders := rfl
@[simp] theorem State.setEndSession_reorderCounter (p : PrinterNo) (r : EndReason) :
    (s.setEndSession p r).reorderCounter =
      s.reorderCounter := rfl
@[simp] theorem State.setEndSession_leadDays (p : PrinterNo) (r : EndReason) :
    (s.setEndSession p r).leadDays =
      s.leadDays := rfl
@[simp] theorem State.setEndSession_safetyDays (p : PrinterNo) (r : EndReason) :
    (s.setEndSession p r).safetyDays =
      s.safetyDays := rfl
@[simp] theorem State.setEndSession_callouts (p : PrinterNo) (r : EndReason) :
    (s.setEndSession p r).callouts =
      s.callouts := rfl
@[simp] theorem State.setEndSession_lines (p : PrinterNo) (r : EndReason) :
    (s.setEndSession p r).lines =
      s.lines := rfl
@[simp] theorem State.setEndSession_ports (p : PrinterNo) (r : EndReason) :
    (s.setEndSession p r).ports =
      s.ports := rfl
@[simp] theorem State.setEndSession_clock (p : PrinterNo) (r : EndReason) :
    (s.setEndSession p r).clock =
      s.clock := rfl
@[simp] theorem State.setEndSession_minuteMarksDue (p : PrinterNo) (r : EndReason) :
    (s.setEndSession p r).minuteMarksDue =
      s.minuteMarksDue := rfl
@[simp] theorem State.setEndSession_dayClosesDue (p : PrinterNo) (r : EndReason) :
    (s.setEndSession p r).dayClosesDue =
      s.dayClosesDue := rfl
@[simp] theorem State.setEndSession_lastMinuteMark (p : PrinterNo) (r : EndReason) :
    (s.setEndSession p r).lastMinuteMark =
      s.lastMinuteMark := rfl
@[simp] theorem State.setEndSession_draws (p : PrinterNo) (r : EndReason) :
    (s.setEndSession p r).draws =
      s.draws := rfl
@[simp] theorem State.setEndSession_pending (p : PrinterNo) (r : EndReason) :
    (s.setEndSession p r).pending =
      s.pending := rfl

@[simp] theorem State.setLine_printers (p : PrinterNo) (v : Bool) : (s.setLine p v).printers = s.printers := rfl
@[simp] theorem State.setLine_channels (p : PrinterNo) (v : Bool) : (s.setLine p v).channels = s.channels := rfl
@[simp] theorem State.setLine_positions (p : PrinterNo) (v : Bool) : (s.setLine p v).positions = s.positions := rfl
@[simp] theorem State.setLine_serviceLines (p : PrinterNo) (v : Bool) :
    (s.setLine p v).serviceLines =
      s.serviceLines.wr p v := rfl
@[simp] theorem State.setLine_reportAnswers (p : PrinterNo) (v : Bool) :
    (s.setLine p v).reportAnswers =
      s.reportAnswers := rfl
@[simp] theorem State.setLine_tenants (p : PrinterNo) (v : Bool) : (s.setLine p v).tenants = s.tenants := rfl
@[simp] theorem State.setLine_accounts (p : PrinterNo) (v : Bool) : (s.setLine p v).accounts = s.accounts := rfl
@[simp] theorem State.setLine_jobs (p : PrinterNo) (v : Bool) : (s.setLine p v).jobs = s.jobs := rfl
@[simp] theorem State.setLine_freeList (p : PrinterNo) (v : Bool) : (s.setLine p v).freeList = s.freeList := rfl
@[simp] theorem State.setLine_submission (p : PrinterNo) (v : Bool) : (s.setLine p v).submission = s.submission := rfl
@[simp] theorem State.setLine_completions (p : PrinterNo) (v : Bool) :
    (s.setLine p v).completions =
      s.completions := rfl
@[simp] theorem State.setLine_sessions (p : PrinterNo) (v : Bool) : (s.setLine p v).sessions = s.sessions := rfl
@[simp] theorem State.setLine_reorders (p : PrinterNo) (v : Bool) : (s.setLine p v).reorders = s.reorders := rfl
@[simp] theorem State.setLine_reorderCounter (p : PrinterNo) (v : Bool) :
    (s.setLine p v).reorderCounter =
      s.reorderCounter := rfl
@[simp] theorem State.setLine_leadDays (p : PrinterNo) (v : Bool) : (s.setLine p v).leadDays = s.leadDays := rfl
@[simp] theorem State.setLine_safetyDays (p : PrinterNo) (v : Bool) : (s.setLine p v).safetyDays = s.safetyDays := rfl
@[simp] theorem State.setLine_callouts (p : PrinterNo) (v : Bool) : (s.setLine p v).callouts = s.callouts := rfl
@[simp] theorem State.setLine_lines (p : PrinterNo) (v : Bool) : (s.setLine p v).lines = s.lines := rfl
@[simp] theorem State.setLine_ports (p : PrinterNo) (v : Bool) : (s.setLine p v).ports = s.ports := rfl
@[simp] theorem State.setLine_clock (p : PrinterNo) (v : Bool) : (s.setLine p v).clock = s.clock := rfl
@[simp] theorem State.setLine_minuteMarksDue (p : PrinterNo) (v : Bool) :
    (s.setLine p v).minuteMarksDue =
      s.minuteMarksDue := rfl
@[simp] theorem State.setLine_dayClosesDue (p : PrinterNo) (v : Bool) :
    (s.setLine p v).dayClosesDue =
      s.dayClosesDue := rfl
@[simp] theorem State.setLine_lastMinuteMark (p : PrinterNo) (v : Bool) :
    (s.setLine p v).lastMinuteMark =
      s.lastMinuteMark := rfl
@[simp] theorem State.setLine_draws (p : PrinterNo) (v : Bool) : (s.setLine p v).draws = s.draws := rfl
@[simp] theorem State.setLine_pending (p : PrinterNo) (v : Bool) : (s.setLine p v).pending = s.pending := rfl

@[simp] theorem State.setTenant_printers (t : TenantNo) (x : Option Tenant) :
    (s.setTenant t x).printers =
      s.printers := rfl
@[simp] theorem State.setTenant_channels (t : TenantNo) (x : Option Tenant) :
    (s.setTenant t x).channels =
      s.channels := rfl
@[simp] theorem State.setTenant_positions (t : TenantNo) (x : Option Tenant) :
    (s.setTenant t x).positions =
      s.positions := rfl
@[simp] theorem State.setTenant_serviceLines (t : TenantNo) (x : Option Tenant) :
    (s.setTenant t x).serviceLines =
      s.serviceLines := rfl
@[simp] theorem State.setTenant_reportAnswers (t : TenantNo) (x : Option Tenant) :
    (s.setTenant t x).reportAnswers =
      s.reportAnswers := rfl
@[simp] theorem State.setTenant_tenants (t : TenantNo) (x : Option Tenant) :
    (s.setTenant t x).tenants =
      s.tenants.wr t x := rfl
@[simp] theorem State.setTenant_accounts (t : TenantNo) (x : Option Tenant) :
    (s.setTenant t x).accounts =
      s.accounts := rfl
@[simp] theorem State.setTenant_jobs (t : TenantNo) (x : Option Tenant) : (s.setTenant t x).jobs = s.jobs := rfl
@[simp] theorem State.setTenant_freeList (t : TenantNo) (x : Option Tenant) :
    (s.setTenant t x).freeList =
      s.freeList := rfl
@[simp] theorem State.setTenant_submission (t : TenantNo) (x : Option Tenant) :
    (s.setTenant t x).submission =
      s.submission := rfl
@[simp] theorem State.setTenant_completions (t : TenantNo) (x : Option Tenant) :
    (s.setTenant t x).completions =
      s.completions := rfl
@[simp] theorem State.setTenant_sessions (t : TenantNo) (x : Option Tenant) :
    (s.setTenant t x).sessions =
      s.sessions := rfl
@[simp] theorem State.setTenant_reorders (t : TenantNo) (x : Option Tenant) :
    (s.setTenant t x).reorders =
      s.reorders := rfl
@[simp] theorem State.setTenant_reorderCounter (t : TenantNo) (x : Option Tenant) :
    (s.setTenant t x).reorderCounter =
      s.reorderCounter := rfl
@[simp] theorem State.setTenant_leadDays (t : TenantNo) (x : Option Tenant) :
    (s.setTenant t x).leadDays =
      s.leadDays := rfl
@[simp] theorem State.setTenant_safetyDays (t : TenantNo) (x : Option Tenant) :
    (s.setTenant t x).safetyDays =
      s.safetyDays := rfl
@[simp] theorem State.setTenant_callouts (t : TenantNo) (x : Option Tenant) :
    (s.setTenant t x).callouts =
      s.callouts := rfl
@[simp] theorem State.setTenant_lines (t : TenantNo) (x : Option Tenant) : (s.setTenant t x).lines = s.lines := rfl
@[simp] theorem State.setTenant_ports (t : TenantNo) (x : Option Tenant) : (s.setTenant t x).ports = s.ports := rfl
@[simp] theorem State.setTenant_clock (t : TenantNo) (x : Option Tenant) : (s.setTenant t x).clock = s.clock := rfl
@[simp] theorem State.setTenant_minuteMarksDue (t : TenantNo) (x : Option Tenant) :
    (s.setTenant t x).minuteMarksDue =
      s.minuteMarksDue := rfl
@[simp] theorem State.setTenant_dayClosesDue (t : TenantNo) (x : Option Tenant) :
    (s.setTenant t x).dayClosesDue =
      s.dayClosesDue := rfl
@[simp] theorem State.setTenant_lastMinuteMark (t : TenantNo) (x : Option Tenant) :
    (s.setTenant t x).lastMinuteMark =
      s.lastMinuteMark := rfl
@[simp] theorem State.setTenant_draws (t : TenantNo) (x : Option Tenant) : (s.setTenant t x).draws = s.draws := rfl
@[simp] theorem State.setTenant_pending (t : TenantNo) (x : Option Tenant) :
    (s.setTenant t x).pending =
      s.pending := rfl

@[simp] theorem State.modAccount_printers (key : AccountKey) (f : Account → Account) :
    (s.modAccount key f).printers =
      s.printers := rfl
@[simp] theorem State.modAccount_channels (key : AccountKey) (f : Account → Account) :
    (s.modAccount key f).channels =
      s.channels := rfl
@[simp] theorem State.modAccount_positions (key : AccountKey) (f : Account → Account) :
    (s.modAccount key f).positions =
      s.positions := rfl
@[simp] theorem State.modAccount_serviceLines (key : AccountKey) (f : Account → Account) :
    (s.modAccount key f).serviceLines =
      s.serviceLines := rfl
@[simp] theorem State.modAccount_reportAnswers (key : AccountKey) (f : Account → Account) :
    (s.modAccount key f).reportAnswers =
      s.reportAnswers := rfl
@[simp] theorem State.modAccount_tenants (key : AccountKey) (f : Account → Account) :
    (s.modAccount key f).tenants =
      s.tenants := rfl
@[simp] theorem State.modAccount_accounts (key : AccountKey) (f : Account → Account) :
    (s.modAccount key f).accounts =
      s.accounts.map fun a => if a.key = key then f a else a := rfl
@[simp] theorem State.modAccount_jobs (key : AccountKey) (f : Account → Account) :
    (s.modAccount key f).jobs =
      s.jobs := rfl
@[simp] theorem State.modAccount_freeList (key : AccountKey) (f : Account → Account) :
    (s.modAccount key f).freeList =
      s.freeList := rfl
@[simp] theorem State.modAccount_submission (key : AccountKey) (f : Account → Account) :
    (s.modAccount key f).submission =
      s.submission := rfl
@[simp] theorem State.modAccount_completions (key : AccountKey) (f : Account → Account) :
    (s.modAccount key f).completions =
      s.completions := rfl
@[simp] theorem State.modAccount_sessions (key : AccountKey) (f : Account → Account) :
    (s.modAccount key f).sessions =
      s.sessions := rfl
@[simp] theorem State.modAccount_reorders (key : AccountKey) (f : Account → Account) :
    (s.modAccount key f).reorders =
      s.reorders := rfl
@[simp] theorem State.modAccount_reorderCounter (key : AccountKey) (f : Account → Account) :
    (s.modAccount key f).reorderCounter =
      s.reorderCounter := rfl
@[simp] theorem State.modAccount_leadDays (key : AccountKey) (f : Account → Account) :
    (s.modAccount key f).leadDays =
      s.leadDays := rfl
@[simp] theorem State.modAccount_safetyDays (key : AccountKey) (f : Account → Account) :
    (s.modAccount key f).safetyDays =
      s.safetyDays := rfl
@[simp] theorem State.modAccount_callouts (key : AccountKey) (f : Account → Account) :
    (s.modAccount key f).callouts =
      s.callouts := rfl
@[simp] theorem State.modAccount_lines (key : AccountKey) (f : Account → Account) :
    (s.modAccount key f).lines =
      s.lines := rfl
@[simp] theorem State.modAccount_ports (key : AccountKey) (f : Account → Account) :
    (s.modAccount key f).ports =
      s.ports := rfl
@[simp] theorem State.modAccount_clock (key : AccountKey) (f : Account → Account) :
    (s.modAccount key f).clock =
      s.clock := rfl
@[simp] theorem State.modAccount_minuteMarksDue (key : AccountKey) (f : Account → Account) :
    (s.modAccount key f).minuteMarksDue =
      s.minuteMarksDue := rfl
@[simp] theorem State.modAccount_dayClosesDue (key : AccountKey) (f : Account → Account) :
    (s.modAccount key f).dayClosesDue =
      s.dayClosesDue := rfl
@[simp] theorem State.modAccount_lastMinuteMark (key : AccountKey) (f : Account → Account) :
    (s.modAccount key f).lastMinuteMark =
      s.lastMinuteMark := rfl
@[simp] theorem State.modAccount_draws (key : AccountKey) (f : Account → Account) :
    (s.modAccount key f).draws =
      s.draws := rfl
@[simp] theorem State.modAccount_pending (key : AccountKey) (f : Account → Account) :
    (s.modAccount key f).pending =
      s.pending := rfl

@[simp] theorem State.setJob_printers (n : RecordNo) (j : Job) : (s.setJob n j).printers = s.printers := rfl
@[simp] theorem State.setJob_channels (n : RecordNo) (j : Job) : (s.setJob n j).channels = s.channels := rfl
@[simp] theorem State.setJob_positions (n : RecordNo) (j : Job) : (s.setJob n j).positions = s.positions := rfl
@[simp] theorem State.setJob_serviceLines (n : RecordNo) (j : Job) :
    (s.setJob n j).serviceLines =
      s.serviceLines := rfl
@[simp] theorem State.setJob_reportAnswers (n : RecordNo) (j : Job) :
    (s.setJob n j).reportAnswers =
      s.reportAnswers := rfl
@[simp] theorem State.setJob_tenants (n : RecordNo) (j : Job) : (s.setJob n j).tenants = s.tenants := rfl
@[simp] theorem State.setJob_accounts (n : RecordNo) (j : Job) : (s.setJob n j).accounts = s.accounts := rfl
@[simp] theorem State.setJob_jobs (n : RecordNo) (j : Job) :
    (s.setJob n j).jobs =
      s.jobs.wr n ⟨(s.jobs.rd n).generation, some j⟩ := rfl
@[simp] theorem State.setJob_freeList (n : RecordNo) (j : Job) : (s.setJob n j).freeList = s.freeList := rfl
@[simp] theorem State.setJob_submission (n : RecordNo) (j : Job) : (s.setJob n j).submission = s.submission := rfl
@[simp] theorem State.setJob_completions (n : RecordNo) (j : Job) : (s.setJob n j).completions = s.completions := rfl
@[simp] theorem State.setJob_sessions (n : RecordNo) (j : Job) : (s.setJob n j).sessions = s.sessions := rfl
@[simp] theorem State.setJob_reorders (n : RecordNo) (j : Job) : (s.setJob n j).reorders = s.reorders := rfl
@[simp] theorem State.setJob_reorderCounter (n : RecordNo) (j : Job) :
    (s.setJob n j).reorderCounter =
      s.reorderCounter := rfl
@[simp] theorem State.setJob_leadDays (n : RecordNo) (j : Job) : (s.setJob n j).leadDays = s.leadDays := rfl
@[simp] theorem State.setJob_safetyDays (n : RecordNo) (j : Job) : (s.setJob n j).safetyDays = s.safetyDays := rfl
@[simp] theorem State.setJob_callouts (n : RecordNo) (j : Job) : (s.setJob n j).callouts = s.callouts := rfl
@[simp] theorem State.setJob_lines (n : RecordNo) (j : Job) : (s.setJob n j).lines = s.lines := rfl
@[simp] theorem State.setJob_ports (n : RecordNo) (j : Job) : (s.setJob n j).ports = s.ports := rfl
@[simp] theorem State.setJob_clock (n : RecordNo) (j : Job) : (s.setJob n j).clock = s.clock := rfl
@[simp] theorem State.setJob_minuteMarksDue (n : RecordNo) (j : Job) :
    (s.setJob n j).minuteMarksDue =
      s.minuteMarksDue := rfl
@[simp] theorem State.setJob_dayClosesDue (n : RecordNo) (j : Job) :
    (s.setJob n j).dayClosesDue =
      s.dayClosesDue := rfl
@[simp] theorem State.setJob_lastMinuteMark (n : RecordNo) (j : Job) :
    (s.setJob n j).lastMinuteMark =
      s.lastMinuteMark := rfl
@[simp] theorem State.setJob_draws (n : RecordNo) (j : Job) : (s.setJob n j).draws = s.draws := rfl
@[simp] theorem State.setJob_pending (n : RecordNo) (j : Job) : (s.setJob n j).pending = s.pending := rfl

@[simp] theorem State.setSession_printers (p : PrinterNo) (x : Option Session) :
    (s.setSession p x).printers =
      s.printers := rfl
@[simp] theorem State.setSession_channels (p : PrinterNo) (x : Option Session) :
    (s.setSession p x).channels =
      s.channels := rfl
@[simp] theorem State.setSession_positions (p : PrinterNo) (x : Option Session) :
    (s.setSession p x).positions =
      s.positions := rfl
@[simp] theorem State.setSession_serviceLines (p : PrinterNo) (x : Option Session) :
    (s.setSession p x).serviceLines =
      s.serviceLines := rfl
@[simp] theorem State.setSession_reportAnswers (p : PrinterNo) (x : Option Session) :
    (s.setSession p x).reportAnswers =
      s.reportAnswers := rfl
@[simp] theorem State.setSession_tenants (p : PrinterNo) (x : Option Session) :
    (s.setSession p x).tenants =
      s.tenants := rfl
@[simp] theorem State.setSession_accounts (p : PrinterNo) (x : Option Session) :
    (s.setSession p x).accounts =
      s.accounts := rfl
@[simp] theorem State.setSession_jobs (p : PrinterNo) (x : Option Session) : (s.setSession p x).jobs = s.jobs := rfl
@[simp] theorem State.setSession_freeList (p : PrinterNo) (x : Option Session) :
    (s.setSession p x).freeList =
      s.freeList := rfl
@[simp] theorem State.setSession_submission (p : PrinterNo) (x : Option Session) :
    (s.setSession p x).submission =
      s.submission := rfl
@[simp] theorem State.setSession_completions (p : PrinterNo) (x : Option Session) :
    (s.setSession p x).completions =
      s.completions := rfl
@[simp] theorem State.setSession_sessions (p : PrinterNo) (x : Option Session) :
    (s.setSession p x).sessions =
      s.sessions.wr p x := rfl
@[simp] theorem State.setSession_reorders (p : PrinterNo) (x : Option Session) :
    (s.setSession p x).reorders =
      s.reorders := rfl
@[simp] theorem State.setSession_reorderCounter (p : PrinterNo) (x : Option Session) :
    (s.setSession p x).reorderCounter =
      s.reorderCounter := rfl
@[simp] theorem State.setSession_leadDays (p : PrinterNo) (x : Option Session) :
    (s.setSession p x).leadDays =
      s.leadDays := rfl
@[simp] theorem State.setSession_safetyDays (p : PrinterNo) (x : Option Session) :
    (s.setSession p x).safetyDays =
      s.safetyDays := rfl
@[simp] theorem State.setSession_callouts (p : PrinterNo) (x : Option Session) :
    (s.setSession p x).callouts =
      s.callouts := rfl
@[simp] theorem State.setSession_lines (p : PrinterNo) (x : Option Session) :
    (s.setSession p x).lines =
      s.lines := rfl
@[simp] theorem State.setSession_ports (p : PrinterNo) (x : Option Session) :
    (s.setSession p x).ports =
      s.ports := rfl
@[simp] theorem State.setSession_clock (p : PrinterNo) (x : Option Session) :
    (s.setSession p x).clock =
      s.clock := rfl
@[simp] theorem State.setSession_minuteMarksDue (p : PrinterNo) (x : Option Session) :
    (s.setSession p x).minuteMarksDue =
      s.minuteMarksDue := rfl
@[simp] theorem State.setSession_dayClosesDue (p : PrinterNo) (x : Option Session) :
    (s.setSession p x).dayClosesDue =
      s.dayClosesDue := rfl
@[simp] theorem State.setSession_lastMinuteMark (p : PrinterNo) (x : Option Session) :
    (s.setSession p x).lastMinuteMark =
      s.lastMinuteMark := rfl
@[simp] theorem State.setSession_draws (p : PrinterNo) (x : Option Session) :
    (s.setSession p x).draws =
      s.draws := rfl
@[simp] theorem State.setSession_pending (p : PrinterNo) (x : Option Session) :
    (s.setSession p x).pending =
      s.pending := rfl

@[simp] theorem State.setPort_printers (n : PortNo) (x : Port) : (s.setPort n x).printers = s.printers := rfl
@[simp] theorem State.setPort_channels (n : PortNo) (x : Port) : (s.setPort n x).channels = s.channels := rfl
@[simp] theorem State.setPort_positions (n : PortNo) (x : Port) : (s.setPort n x).positions = s.positions := rfl
@[simp] theorem State.setPort_serviceLines (n : PortNo) (x : Port) :
    (s.setPort n x).serviceLines =
      s.serviceLines := rfl
@[simp] theorem State.setPort_reportAnswers (n : PortNo) (x : Port) :
    (s.setPort n x).reportAnswers =
      s.reportAnswers := rfl
@[simp] theorem State.setPort_tenants (n : PortNo) (x : Port) : (s.setPort n x).tenants = s.tenants := rfl
@[simp] theorem State.setPort_accounts (n : PortNo) (x : Port) : (s.setPort n x).accounts = s.accounts := rfl
@[simp] theorem State.setPort_jobs (n : PortNo) (x : Port) : (s.setPort n x).jobs = s.jobs := rfl
@[simp] theorem State.setPort_freeList (n : PortNo) (x : Port) : (s.setPort n x).freeList = s.freeList := rfl
@[simp] theorem State.setPort_submission (n : PortNo) (x : Port) : (s.setPort n x).submission = s.submission := rfl
@[simp] theorem State.setPort_completions (n : PortNo) (x : Port) : (s.setPort n x).completions = s.completions := rfl
@[simp] theorem State.setPort_sessions (n : PortNo) (x : Port) : (s.setPort n x).sessions = s.sessions := rfl
@[simp] theorem State.setPort_reorders (n : PortNo) (x : Port) : (s.setPort n x).reorders = s.reorders := rfl
@[simp] theorem State.setPort_reorderCounter (n : PortNo) (x : Port) :
    (s.setPort n x).reorderCounter =
      s.reorderCounter := rfl
@[simp] theorem State.setPort_leadDays (n : PortNo) (x : Port) : (s.setPort n x).leadDays = s.leadDays := rfl
@[simp] theorem State.setPort_safetyDays (n : PortNo) (x : Port) : (s.setPort n x).safetyDays = s.safetyDays := rfl
@[simp] theorem State.setPort_callouts (n : PortNo) (x : Port) : (s.setPort n x).callouts = s.callouts := rfl
@[simp] theorem State.setPort_lines (n : PortNo) (x : Port) : (s.setPort n x).lines = s.lines := rfl
@[simp] theorem State.setPort_ports (n : PortNo) (x : Port) : (s.setPort n x).ports = s.ports.wr n x := rfl
@[simp] theorem State.setPort_clock (n : PortNo) (x : Port) : (s.setPort n x).clock = s.clock := rfl
@[simp] theorem State.setPort_minuteMarksDue (n : PortNo) (x : Port) :
    (s.setPort n x).minuteMarksDue =
      s.minuteMarksDue := rfl
@[simp] theorem State.setPort_dayClosesDue (n : PortNo) (x : Port) :
    (s.setPort n x).dayClosesDue =
      s.dayClosesDue := rfl
@[simp] theorem State.setPort_lastMinuteMark (n : PortNo) (x : Port) :
    (s.setPort n x).lastMinuteMark =
      s.lastMinuteMark := rfl
@[simp] theorem State.setPort_draws (n : PortNo) (x : Port) : (s.setPort n x).draws = s.draws := rfl
@[simp] theorem State.setPort_pending (n : PortNo) (x : Port) : (s.setPort n x).pending = s.pending := rfl

@[simp] theorem State.placeAnswer_printers (n : PortNo) (a : Answer) :
    (s.placeAnswer n a).printers =
      s.printers := rfl
@[simp] theorem State.placeAnswer_channels (n : PortNo) (a : Answer) :
    (s.placeAnswer n a).channels =
      s.channels := rfl
@[simp] theorem State.placeAnswer_positions (n : PortNo) (a : Answer) :
    (s.placeAnswer n a).positions =
      s.positions := rfl
@[simp] theorem State.placeAnswer_serviceLines (n : PortNo) (a : Answer) :
    (s.placeAnswer n a).serviceLines =
      s.serviceLines := rfl
@[simp] theorem State.placeAnswer_reportAnswers (n : PortNo) (a : Answer) :
    (s.placeAnswer n a).reportAnswers =
      s.reportAnswers := rfl
@[simp] theorem State.placeAnswer_tenants (n : PortNo) (a : Answer) : (s.placeAnswer n a).tenants = s.tenants := rfl
@[simp] theorem State.placeAnswer_accounts (n : PortNo) (a : Answer) :
    (s.placeAnswer n a).accounts =
      s.accounts := rfl
@[simp] theorem State.placeAnswer_jobs (n : PortNo) (a : Answer) : (s.placeAnswer n a).jobs = s.jobs := rfl
@[simp] theorem State.placeAnswer_freeList (n : PortNo) (a : Answer) :
    (s.placeAnswer n a).freeList =
      s.freeList := rfl
@[simp] theorem State.placeAnswer_submission (n : PortNo) (a : Answer) :
    (s.placeAnswer n a).submission =
      s.submission := rfl
@[simp] theorem State.placeAnswer_completions (n : PortNo) (a : Answer) :
    (s.placeAnswer n a).completions =
      s.completions := rfl
@[simp] theorem State.placeAnswer_sessions (n : PortNo) (a : Answer) :
    (s.placeAnswer n a).sessions =
      s.sessions := rfl
@[simp] theorem State.placeAnswer_reorders (n : PortNo) (a : Answer) :
    (s.placeAnswer n a).reorders =
      s.reorders := rfl
@[simp] theorem State.placeAnswer_reorderCounter (n : PortNo) (a : Answer) :
    (s.placeAnswer n a).reorderCounter =
      s.reorderCounter := rfl
@[simp] theorem State.placeAnswer_leadDays (n : PortNo) (a : Answer) :
    (s.placeAnswer n a).leadDays =
      s.leadDays := rfl
@[simp] theorem State.placeAnswer_safetyDays (n : PortNo) (a : Answer) :
    (s.placeAnswer n a).safetyDays =
      s.safetyDays := rfl
@[simp] theorem State.placeAnswer_callouts (n : PortNo) (a : Answer) :
    (s.placeAnswer n a).callouts =
      s.callouts := rfl
@[simp] theorem State.placeAnswer_lines (n : PortNo) (a : Answer) : (s.placeAnswer n a).lines = s.lines := rfl
@[simp] theorem State.placeAnswer_ports (n : PortNo) (a : Answer) :
    (s.placeAnswer n a).ports =
      s.ports.wr n { s.ports.rd n with answer := some a } := rfl
@[simp] theorem State.placeAnswer_clock (n : PortNo) (a : Answer) : (s.placeAnswer n a).clock = s.clock := rfl
@[simp] theorem State.placeAnswer_minuteMarksDue (n : PortNo) (a : Answer) :
    (s.placeAnswer n a).minuteMarksDue =
      s.minuteMarksDue := rfl
@[simp] theorem State.placeAnswer_dayClosesDue (n : PortNo) (a : Answer) :
    (s.placeAnswer n a).dayClosesDue =
      s.dayClosesDue := rfl
@[simp] theorem State.placeAnswer_lastMinuteMark (n : PortNo) (a : Answer) :
    (s.placeAnswer n a).lastMinuteMark =
      s.lastMinuteMark := rfl
@[simp] theorem State.placeAnswer_draws (n : PortNo) (a : Answer) : (s.placeAnswer n a).draws = s.draws := rfl
@[simp] theorem State.placeAnswer_pending (n : PortNo) (a : Answer) : (s.placeAnswer n a).pending = s.pending := rfl

@[simp] theorem State.beginRequest_printers (n : PortNo) (code tag : Byte) :
    (s.beginRequest n code tag).printers =
      s.printers := rfl
@[simp] theorem State.beginRequest_channels (n : PortNo) (code tag : Byte) :
    (s.beginRequest n code tag).channels =
      s.channels := rfl
@[simp] theorem State.beginRequest_positions (n : PortNo) (code tag : Byte) :
    (s.beginRequest n code tag).positions =
      s.positions := rfl
@[simp] theorem State.beginRequest_serviceLines (n : PortNo) (code tag : Byte) :
    (s.beginRequest n code tag).serviceLines =
      s.serviceLines := rfl
@[simp] theorem State.beginRequest_reportAnswers (n : PortNo) (code tag : Byte) :
    (s.beginRequest n code tag).reportAnswers =
      s.reportAnswers := rfl
@[simp] theorem State.beginRequest_tenants (n : PortNo) (code tag : Byte) :
    (s.beginRequest n code tag).tenants =
      s.tenants := rfl
@[simp] theorem State.beginRequest_accounts (n : PortNo) (code tag : Byte) :
    (s.beginRequest n code tag).accounts =
      s.accounts := rfl
@[simp] theorem State.beginRequest_jobs (n : PortNo) (code tag : Byte) :
    (s.beginRequest n code tag).jobs =
      s.jobs := rfl
@[simp] theorem State.beginRequest_freeList (n : PortNo) (code tag : Byte) :
    (s.beginRequest n code tag).freeList =
      s.freeList := rfl
@[simp] theorem State.beginRequest_submission (n : PortNo) (code tag : Byte) :
    (s.beginRequest n code tag).submission =
      s.submission := rfl
@[simp] theorem State.beginRequest_completions (n : PortNo) (code tag : Byte) :
    (s.beginRequest n code tag).completions =
      s.completions := rfl
@[simp] theorem State.beginRequest_sessions (n : PortNo) (code tag : Byte) :
    (s.beginRequest n code tag).sessions =
      s.sessions := rfl
@[simp] theorem State.beginRequest_reorders (n : PortNo) (code tag : Byte) :
    (s.beginRequest n code tag).reorders =
      s.reorders := rfl
@[simp] theorem State.beginRequest_reorderCounter (n : PortNo) (code tag : Byte) :
    (s.beginRequest n code tag).reorderCounter =
      s.reorderCounter := rfl
@[simp] theorem State.beginRequest_leadDays (n : PortNo) (code tag : Byte) :
    (s.beginRequest n code tag).leadDays =
      s.leadDays := rfl
@[simp] theorem State.beginRequest_safetyDays (n : PortNo) (code tag : Byte) :
    (s.beginRequest n code tag).safetyDays =
      s.safetyDays := rfl
@[simp] theorem State.beginRequest_callouts (n : PortNo) (code tag : Byte) :
    (s.beginRequest n code tag).callouts =
      s.callouts := rfl
@[simp] theorem State.beginRequest_lines (n : PortNo) (code tag : Byte) :
    (s.beginRequest n code tag).lines =
      s.lines := rfl
@[simp] theorem State.beginRequest_ports (n : PortNo) (code tag : Byte) :
    (s.beginRequest n code tag).ports =
      s.ports.wr n { s.ports.rd n with outstanding := some ⟨code, tag⟩ } := rfl
@[simp] theorem State.beginRequest_clock (n : PortNo) (code tag : Byte) :
    (s.beginRequest n code tag).clock =
      s.clock := rfl
@[simp] theorem State.beginRequest_minuteMarksDue (n : PortNo) (code tag : Byte) :
    (s.beginRequest n code tag).minuteMarksDue =
      s.minuteMarksDue := rfl
@[simp] theorem State.beginRequest_dayClosesDue (n : PortNo) (code tag : Byte) :
    (s.beginRequest n code tag).dayClosesDue =
      s.dayClosesDue := rfl
@[simp] theorem State.beginRequest_lastMinuteMark (n : PortNo) (code tag : Byte) :
    (s.beginRequest n code tag).lastMinuteMark =
      s.lastMinuteMark := rfl
@[simp] theorem State.beginRequest_draws (n : PortNo) (code tag : Byte) :
    (s.beginRequest n code tag).draws =
      s.draws := rfl
@[simp] theorem State.beginRequest_pending (n : PortNo) (code tag : Byte) :
    (s.beginRequest n code tag).pending =
      s.pending := rfl

@[simp] theorem State.raise_printers (a : Attention) (r : Role → Bool) : (s.raise a r).printers = s.printers := rfl
@[simp] theorem State.raise_channels (a : Attention) (r : Role → Bool) : (s.raise a r).channels = s.channels := rfl
@[simp] theorem State.raise_positions (a : Attention) (r : Role → Bool) : (s.raise a r).positions = s.positions := rfl
@[simp] theorem State.raise_serviceLines (a : Attention) (r : Role → Bool) :
    (s.raise a r).serviceLines =
      s.serviceLines := rfl
@[simp] theorem State.raise_reportAnswers (a : Attention) (r : Role → Bool) :
    (s.raise a r).reportAnswers =
      s.reportAnswers := rfl
@[simp] theorem State.raise_tenants (a : Attention) (r : Role → Bool) : (s.raise a r).tenants = s.tenants := rfl
@[simp] theorem State.raise_accounts (a : Attention) (r : Role → Bool) : (s.raise a r).accounts = s.accounts := rfl
@[simp] theorem State.raise_jobs (a : Attention) (r : Role → Bool) : (s.raise a r).jobs = s.jobs := rfl
@[simp] theorem State.raise_freeList (a : Attention) (r : Role → Bool) : (s.raise a r).freeList = s.freeList := rfl
@[simp] theorem State.raise_submission (a : Attention) (r : Role → Bool) :
    (s.raise a r).submission =
      s.submission := rfl
@[simp] theorem State.raise_completions (a : Attention) (r : Role → Bool) :
    (s.raise a r).completions =
      s.completions := rfl
@[simp] theorem State.raise_sessions (a : Attention) (r : Role → Bool) : (s.raise a r).sessions = s.sessions := rfl
@[simp] theorem State.raise_reorders (a : Attention) (r : Role → Bool) : (s.raise a r).reorders = s.reorders := rfl
@[simp] theorem State.raise_reorderCounter (a : Attention) (r : Role → Bool) :
    (s.raise a r).reorderCounter =
      s.reorderCounter := rfl
@[simp] theorem State.raise_leadDays (a : Attention) (r : Role → Bool) : (s.raise a r).leadDays = s.leadDays := rfl
@[simp] theorem State.raise_safetyDays (a : Attention) (r : Role → Bool) :
    (s.raise a r).safetyDays =
      s.safetyDays := rfl
@[simp] theorem State.raise_callouts (a : Attention) (r : Role → Bool) : (s.raise a r).callouts = s.callouts := rfl
@[simp] theorem State.raise_lines (a : Attention) (r : Role → Bool) : (s.raise a r).lines = s.lines := rfl
@[simp] theorem State.raise_ports (a : Attention) (r : Role → Bool) :
    (s.raise a r).ports =
      s.ports.map fun p => if r p.role then p.withSets (p.raw ||| a.set) p.mask else p := rfl
@[simp] theorem State.raise_clock (a : Attention) (r : Role → Bool) : (s.raise a r).clock = s.clock := rfl
@[simp] theorem State.raise_minuteMarksDue (a : Attention) (r : Role → Bool) :
    (s.raise a r).minuteMarksDue =
      s.minuteMarksDue := rfl
@[simp] theorem State.raise_dayClosesDue (a : Attention) (r : Role → Bool) :
    (s.raise a r).dayClosesDue =
      s.dayClosesDue := rfl
@[simp] theorem State.raise_lastMinuteMark (a : Attention) (r : Role → Bool) :
    (s.raise a r).lastMinuteMark =
      s.lastMinuteMark := rfl
@[simp] theorem State.raise_draws (a : Attention) (r : Role → Bool) : (s.raise a r).draws = s.draws := rfl
@[simp] theorem State.raise_pending (a : Attention) (r : Role → Bool) : (s.raise a r).pending = s.pending := rfl

@[simp] theorem State.setCallout_printers (p : PrinterNo) (c : CondClass) (x : Option Callout) :
    (s.setCallout p c x).printers =
      s.printers := rfl
@[simp] theorem State.setCallout_channels (p : PrinterNo) (c : CondClass) (x : Option Callout) :
    (s.setCallout p c x).channels =
      s.channels := rfl
@[simp] theorem State.setCallout_positions (p : PrinterNo) (c : CondClass) (x : Option Callout) :
    (s.setCallout p c x).positions =
      s.positions := rfl
@[simp] theorem State.setCallout_serviceLines (p : PrinterNo) (c : CondClass) (x : Option Callout) :
    (s.setCallout p c x).serviceLines =
      s.serviceLines := rfl
@[simp] theorem State.setCallout_reportAnswers (p : PrinterNo) (c : CondClass) (x : Option Callout) :
    (s.setCallout p c x).reportAnswers =
      s.reportAnswers := rfl
@[simp] theorem State.setCallout_tenants (p : PrinterNo) (c : CondClass) (x : Option Callout) :
    (s.setCallout p c x).tenants =
      s.tenants := rfl
@[simp] theorem State.setCallout_accounts (p : PrinterNo) (c : CondClass) (x : Option Callout) :
    (s.setCallout p c x).accounts =
      s.accounts := rfl
@[simp] theorem State.setCallout_jobs (p : PrinterNo) (c : CondClass) (x : Option Callout) :
    (s.setCallout p c x).jobs =
      s.jobs := rfl
@[simp] theorem State.setCallout_freeList (p : PrinterNo) (c : CondClass) (x : Option Callout) :
    (s.setCallout p c x).freeList =
      s.freeList := rfl
@[simp] theorem State.setCallout_submission (p : PrinterNo) (c : CondClass) (x : Option Callout) :
    (s.setCallout p c x).submission =
      s.submission := rfl
@[simp] theorem State.setCallout_completions (p : PrinterNo) (c : CondClass) (x : Option Callout) :
    (s.setCallout p c x).completions =
      s.completions := rfl
@[simp] theorem State.setCallout_sessions (p : PrinterNo) (c : CondClass) (x : Option Callout) :
    (s.setCallout p c x).sessions =
      s.sessions := rfl
@[simp] theorem State.setCallout_reorders (p : PrinterNo) (c : CondClass) (x : Option Callout) :
    (s.setCallout p c x).reorders =
      s.reorders := rfl
@[simp] theorem State.setCallout_reorderCounter (p : PrinterNo) (c : CondClass) (x : Option Callout) :
    (s.setCallout p c x).reorderCounter =
      s.reorderCounter := rfl
@[simp] theorem State.setCallout_leadDays (p : PrinterNo) (c : CondClass) (x : Option Callout) :
    (s.setCallout p c x).leadDays =
      s.leadDays := rfl
@[simp] theorem State.setCallout_safetyDays (p : PrinterNo) (c : CondClass) (x : Option Callout) :
    (s.setCallout p c x).safetyDays =
      s.safetyDays := rfl
@[simp] theorem State.setCallout_callouts (p : PrinterNo) (c : CondClass) (x : Option Callout) :
    (s.setCallout p c x).callouts =
      s.callouts.wr (calloutNo p c) x := rfl
@[simp] theorem State.setCallout_lines (p : PrinterNo) (c : CondClass) (x : Option Callout) :
    (s.setCallout p c x).lines =
      s.lines.set c (anyOpenCallout (s.callouts.wr (calloutNo p c) x) c) := rfl
@[simp] theorem State.setCallout_ports (p : PrinterNo) (c : CondClass) (x : Option Callout) :
    (s.setCallout p c x).ports =
      s.ports := rfl
@[simp] theorem State.setCallout_clock (p : PrinterNo) (c : CondClass) (x : Option Callout) :
    (s.setCallout p c x).clock =
      s.clock := rfl
@[simp] theorem State.setCallout_minuteMarksDue (p : PrinterNo) (c : CondClass) (x : Option Callout) :
    (s.setCallout p c x).minuteMarksDue =
      s.minuteMarksDue := rfl
@[simp] theorem State.setCallout_dayClosesDue (p : PrinterNo) (c : CondClass) (x : Option Callout) :
    (s.setCallout p c x).dayClosesDue =
      s.dayClosesDue := rfl
@[simp] theorem State.setCallout_lastMinuteMark (p : PrinterNo) (c : CondClass) (x : Option Callout) :
    (s.setCallout p c x).lastMinuteMark =
      s.lastMinuteMark := rfl
@[simp] theorem State.setCallout_draws (p : PrinterNo) (c : CondClass) (x : Option Callout) :
    (s.setCallout p c x).draws =
      s.draws := rfl
@[simp] theorem State.setCallout_pending (p : PrinterNo) (c : CondClass) (x : Option Callout) :
    (s.setCallout p c x).pending =
      s.pending := rfl

@[simp] theorem State.modReorder_printers (n : Nat) (f : Reorder → Reorder) :
    (s.modReorder n f).printers =
      s.printers := rfl
@[simp] theorem State.modReorder_channels (n : Nat) (f : Reorder → Reorder) :
    (s.modReorder n f).channels =
      s.channels := rfl
@[simp] theorem State.modReorder_positions (n : Nat) (f : Reorder → Reorder) :
    (s.modReorder n f).positions =
      s.positions := rfl
@[simp] theorem State.modReorder_serviceLines (n : Nat) (f : Reorder → Reorder) :
    (s.modReorder n f).serviceLines =
      s.serviceLines := rfl
@[simp] theorem State.modReorder_reportAnswers (n : Nat) (f : Reorder → Reorder) :
    (s.modReorder n f).reportAnswers =
      s.reportAnswers := rfl
@[simp] theorem State.modReorder_tenants (n : Nat) (f : Reorder → Reorder) :
    (s.modReorder n f).tenants =
      s.tenants := rfl
@[simp] theorem State.modReorder_accounts (n : Nat) (f : Reorder → Reorder) :
    (s.modReorder n f).accounts =
      s.accounts := rfl
@[simp] theorem State.modReorder_jobs (n : Nat) (f : Reorder → Reorder) : (s.modReorder n f).jobs = s.jobs := rfl
@[simp] theorem State.modReorder_freeList (n : Nat) (f : Reorder → Reorder) :
    (s.modReorder n f).freeList =
      s.freeList := rfl
@[simp] theorem State.modReorder_submission (n : Nat) (f : Reorder → Reorder) :
    (s.modReorder n f).submission =
      s.submission := rfl
@[simp] theorem State.modReorder_completions (n : Nat) (f : Reorder → Reorder) :
    (s.modReorder n f).completions =
      s.completions := rfl
@[simp] theorem State.modReorder_sessions (n : Nat) (f : Reorder → Reorder) :
    (s.modReorder n f).sessions =
      s.sessions := rfl
@[simp] theorem State.modReorder_reorders (n : Nat) (f : Reorder → Reorder) :
    (s.modReorder n f).reorders =
      s.reorders.map fun r => if r.number = n then f r else r := rfl
@[simp] theorem State.modReorder_reorderCounter (n : Nat) (f : Reorder → Reorder) :
    (s.modReorder n f).reorderCounter =
      s.reorderCounter := rfl
@[simp] theorem State.modReorder_leadDays (n : Nat) (f : Reorder → Reorder) :
    (s.modReorder n f).leadDays =
      s.leadDays := rfl
@[simp] theorem State.modReorder_safetyDays (n : Nat) (f : Reorder → Reorder) :
    (s.modReorder n f).safetyDays =
      s.safetyDays := rfl
@[simp] theorem State.modReorder_callouts (n : Nat) (f : Reorder → Reorder) :
    (s.modReorder n f).callouts =
      s.callouts := rfl
@[simp] theorem State.modReorder_lines (n : Nat) (f : Reorder → Reorder) : (s.modReorder n f).lines = s.lines := rfl
@[simp] theorem State.modReorder_ports (n : Nat) (f : Reorder → Reorder) : (s.modReorder n f).ports = s.ports := rfl
@[simp] theorem State.modReorder_clock (n : Nat) (f : Reorder → Reorder) : (s.modReorder n f).clock = s.clock := rfl
@[simp] theorem State.modReorder_minuteMarksDue (n : Nat) (f : Reorder → Reorder) :
    (s.modReorder n f).minuteMarksDue =
      s.minuteMarksDue := rfl
@[simp] theorem State.modReorder_dayClosesDue (n : Nat) (f : Reorder → Reorder) :
    (s.modReorder n f).dayClosesDue =
      s.dayClosesDue := rfl
@[simp] theorem State.modReorder_lastMinuteMark (n : Nat) (f : Reorder → Reorder) :
    (s.modReorder n f).lastMinuteMark =
      s.lastMinuteMark := rfl
@[simp] theorem State.modReorder_draws (n : Nat) (f : Reorder → Reorder) : (s.modReorder n f).draws = s.draws := rfl
@[simp] theorem State.modReorder_pending (n : Nat) (f : Reorder → Reorder) :
    (s.modReorder n f).pending =
      s.pending := rfl

@[simp] theorem State.modTenant_printers (t : TenantNo) (f : Tenant → Tenant) : (s.modTenant t f).printers = s.printers := by
  unfold State.modTenant; split <;> rfl
@[simp] theorem State.modTenant_channels (t : TenantNo) (f : Tenant → Tenant) : (s.modTenant t f).channels = s.channels := by
  unfold State.modTenant; split <;> rfl
@[simp] theorem State.modTenant_positions (t : TenantNo) (f : Tenant → Tenant) : (s.modTenant t f).positions = s.positions := by
  unfold State.modTenant; split <;> rfl
@[simp] theorem State.modTenant_serviceLines (t : TenantNo) (f : Tenant → Tenant) : (s.modTenant t f).serviceLines = s.serviceLines := by
  unfold State.modTenant; split <;> rfl
@[simp] theorem State.modTenant_reportAnswers (t : TenantNo) (f : Tenant → Tenant) : (s.modTenant t f).reportAnswers = s.reportAnswers := by
  unfold State.modTenant; split <;> rfl
@[simp] theorem State.modTenant_accounts (t : TenantNo) (f : Tenant → Tenant) : (s.modTenant t f).accounts = s.accounts := by
  unfold State.modTenant; split <;> rfl
@[simp] theorem State.modTenant_jobs (t : TenantNo) (f : Tenant → Tenant) : (s.modTenant t f).jobs = s.jobs := by
  unfold State.modTenant; split <;> rfl
@[simp] theorem State.modTenant_freeList (t : TenantNo) (f : Tenant → Tenant) : (s.modTenant t f).freeList = s.freeList := by
  unfold State.modTenant; split <;> rfl
@[simp] theorem State.modTenant_submission (t : TenantNo) (f : Tenant → Tenant) : (s.modTenant t f).submission = s.submission := by
  unfold State.modTenant; split <;> rfl
@[simp] theorem State.modTenant_completions (t : TenantNo) (f : Tenant → Tenant) : (s.modTenant t f).completions = s.completions := by
  unfold State.modTenant; split <;> rfl
@[simp] theorem State.modTenant_sessions (t : TenantNo) (f : Tenant → Tenant) : (s.modTenant t f).sessions = s.sessions := by
  unfold State.modTenant; split <;> rfl
@[simp] theorem State.modTenant_reorders (t : TenantNo) (f : Tenant → Tenant) : (s.modTenant t f).reorders = s.reorders := by
  unfold State.modTenant; split <;> rfl
@[simp] theorem State.modTenant_reorderCounter (t : TenantNo) (f : Tenant → Tenant) : (s.modTenant t f).reorderCounter = s.reorderCounter := by
  unfold State.modTenant; split <;> rfl
@[simp] theorem State.modTenant_leadDays (t : TenantNo) (f : Tenant → Tenant) : (s.modTenant t f).leadDays = s.leadDays := by
  unfold State.modTenant; split <;> rfl
@[simp] theorem State.modTenant_safetyDays (t : TenantNo) (f : Tenant → Tenant) : (s.modTenant t f).safetyDays = s.safetyDays := by
  unfold State.modTenant; split <;> rfl
@[simp] theorem State.modTenant_callouts (t : TenantNo) (f : Tenant → Tenant) : (s.modTenant t f).callouts = s.callouts := by
  unfold State.modTenant; split <;> rfl
@[simp] theorem State.modTenant_lines (t : TenantNo) (f : Tenant → Tenant) : (s.modTenant t f).lines = s.lines := by
  unfold State.modTenant; split <;> rfl
@[simp] theorem State.modTenant_ports (t : TenantNo) (f : Tenant → Tenant) : (s.modTenant t f).ports = s.ports := by
  unfold State.modTenant; split <;> rfl
@[simp] theorem State.modTenant_clock (t : TenantNo) (f : Tenant → Tenant) : (s.modTenant t f).clock = s.clock := by
  unfold State.modTenant; split <;> rfl
@[simp] theorem State.modTenant_minuteMarksDue (t : TenantNo) (f : Tenant → Tenant) : (s.modTenant t f).minuteMarksDue = s.minuteMarksDue := by
  unfold State.modTenant; split <;> rfl
@[simp] theorem State.modTenant_dayClosesDue (t : TenantNo) (f : Tenant → Tenant) : (s.modTenant t f).dayClosesDue = s.dayClosesDue := by
  unfold State.modTenant; split <;> rfl
@[simp] theorem State.modTenant_lastMinuteMark (t : TenantNo) (f : Tenant → Tenant) : (s.modTenant t f).lastMinuteMark = s.lastMinuteMark := by
  unfold State.modTenant; split <;> rfl
@[simp] theorem State.modTenant_draws (t : TenantNo) (f : Tenant → Tenant) : (s.modTenant t f).draws = s.draws := by
  unfold State.modTenant; split <;> rfl
@[simp] theorem State.modTenant_pending (t : TenantNo) (f : Tenant → Tenant) : (s.modTenant t f).pending = s.pending := by
  unfold State.modTenant; split <;> rfl
/-- The record read after: changed where it is present. -/
theorem State.modTenant_tenants_rd (t : TenantNo) (f : Tenant → Tenant) (i : TenantNo) :
    (s.modTenant t f).tenants.rd i = if t = i then (s.tenants.rd t).map f else s.tenants.rd i := by
  unfold State.modTenant
  split
  · next x h => simp [State.setTenant, Table.rd_wr, h]
  · next h =>
    split
    · next e => subst e; simp [h]
    · rfl

@[simp] theorem State.modSession_printers (p : PrinterNo) (f : Session → Session) : (s.modSession p f).printers = s.printers := by
  unfold State.modSession; split <;> rfl
@[simp] theorem State.modSession_channels (p : PrinterNo) (f : Session → Session) : (s.modSession p f).channels = s.channels := by
  unfold State.modSession; split <;> rfl
@[simp] theorem State.modSession_positions (p : PrinterNo) (f : Session → Session) : (s.modSession p f).positions = s.positions := by
  unfold State.modSession; split <;> rfl
@[simp] theorem State.modSession_serviceLines (p : PrinterNo) (f : Session → Session) : (s.modSession p f).serviceLines = s.serviceLines := by
  unfold State.modSession; split <;> rfl
@[simp] theorem State.modSession_reportAnswers (p : PrinterNo) (f : Session → Session) : (s.modSession p f).reportAnswers = s.reportAnswers := by
  unfold State.modSession; split <;> rfl
@[simp] theorem State.modSession_tenants (p : PrinterNo) (f : Session → Session) : (s.modSession p f).tenants = s.tenants := by
  unfold State.modSession; split <;> rfl
@[simp] theorem State.modSession_accounts (p : PrinterNo) (f : Session → Session) : (s.modSession p f).accounts = s.accounts := by
  unfold State.modSession; split <;> rfl
@[simp] theorem State.modSession_jobs (p : PrinterNo) (f : Session → Session) : (s.modSession p f).jobs = s.jobs := by
  unfold State.modSession; split <;> rfl
@[simp] theorem State.modSession_freeList (p : PrinterNo) (f : Session → Session) : (s.modSession p f).freeList = s.freeList := by
  unfold State.modSession; split <;> rfl
@[simp] theorem State.modSession_submission (p : PrinterNo) (f : Session → Session) : (s.modSession p f).submission = s.submission := by
  unfold State.modSession; split <;> rfl
@[simp] theorem State.modSession_completions (p : PrinterNo) (f : Session → Session) : (s.modSession p f).completions = s.completions := by
  unfold State.modSession; split <;> rfl
@[simp] theorem State.modSession_reorders (p : PrinterNo) (f : Session → Session) : (s.modSession p f).reorders = s.reorders := by
  unfold State.modSession; split <;> rfl
@[simp] theorem State.modSession_reorderCounter (p : PrinterNo) (f : Session → Session) : (s.modSession p f).reorderCounter = s.reorderCounter := by
  unfold State.modSession; split <;> rfl
@[simp] theorem State.modSession_leadDays (p : PrinterNo) (f : Session → Session) : (s.modSession p f).leadDays = s.leadDays := by
  unfold State.modSession; split <;> rfl
@[simp] theorem State.modSession_safetyDays (p : PrinterNo) (f : Session → Session) : (s.modSession p f).safetyDays = s.safetyDays := by
  unfold State.modSession; split <;> rfl
@[simp] theorem State.modSession_callouts (p : PrinterNo) (f : Session → Session) : (s.modSession p f).callouts = s.callouts := by
  unfold State.modSession; split <;> rfl
@[simp] theorem State.modSession_lines (p : PrinterNo) (f : Session → Session) : (s.modSession p f).lines = s.lines := by
  unfold State.modSession; split <;> rfl
@[simp] theorem State.modSession_ports (p : PrinterNo) (f : Session → Session) : (s.modSession p f).ports = s.ports := by
  unfold State.modSession; split <;> rfl
@[simp] theorem State.modSession_clock (p : PrinterNo) (f : Session → Session) : (s.modSession p f).clock = s.clock := by
  unfold State.modSession; split <;> rfl
@[simp] theorem State.modSession_minuteMarksDue (p : PrinterNo) (f : Session → Session) : (s.modSession p f).minuteMarksDue = s.minuteMarksDue := by
  unfold State.modSession; split <;> rfl
@[simp] theorem State.modSession_dayClosesDue (p : PrinterNo) (f : Session → Session) : (s.modSession p f).dayClosesDue = s.dayClosesDue := by
  unfold State.modSession; split <;> rfl
@[simp] theorem State.modSession_lastMinuteMark (p : PrinterNo) (f : Session → Session) : (s.modSession p f).lastMinuteMark = s.lastMinuteMark := by
  unfold State.modSession; split <;> rfl
@[simp] theorem State.modSession_draws (p : PrinterNo) (f : Session → Session) : (s.modSession p f).draws = s.draws := by
  unfold State.modSession; split <;> rfl
@[simp] theorem State.modSession_pending (p : PrinterNo) (f : Session → Session) : (s.modSession p f).pending = s.pending := by
  unfold State.modSession; split <;> rfl
/-- The record read after: changed where it is present. -/
theorem State.modSession_sessions_rd (p : PrinterNo) (f : Session → Session) (i : PrinterNo) :
    (s.modSession p f).sessions.rd i = if p = i then (s.sessions.rd p).map f else s.sessions.rd i := by
  unfold State.modSession
  split
  · next x h => simp [State.setSession, Table.rd_wr, h]
  · next h =>
    split
    · next e => subst e; simp [h]
    · rfl

end Sys2Proof.Machine
end

