-- ==== Sys2Proof/Laws/Frames.lean ====
section
/-! SUPPORT. What each shared operation can change at most: the state it leaves is the state it found with the named
fields replaced. A proof about another field cites its operation's frame and never unfolds it. -/

namespace Sys2Proof.Machine

variable (s : State)

/-! ### Records, sessions, jobs -/

theorem State.modTenant_frame (t : TenantNo) (f : Tenant → Tenant) :
    ∃ ts, s.modTenant t f = { s with tenants := ts } := by
  unfold State.modTenant
  split
  · exact ⟨_, rfl⟩
  · exact ⟨s.tenants, rfl⟩

theorem State.modSession_frame (p : PrinterNo) (f : Session → Session) :
    ∃ ss, s.modSession p f = { s with sessions := ss } := by
  unfold State.modSession
  split
  · exact ⟨_, rfl⟩
  · exact ⟨s.sessions, rfl⟩

theorem State.endSession_frame (p : PrinterNo) (r : EndReason) :
    ∃ ss as ps, s.endSession p r = { s with sessions := ss, accounts := as, positions := ps } := by
  unfold State.endSession
  split
  · exact ⟨s.sessions, s.accounts, s.positions, rfl⟩
  · dsimp only
    split
    · exact ⟨_, _, _, rfl⟩
    · exact ⟨_, _, s.positions, rfl⟩

theorem State.returnToShowing_frame (p : PrinterNo) :
    ∃ ss ps, s.returnToShowing p = { s with sessions := ss, positions := ps } := by
  unfold State.returnToShowing
  split
  · obtain ⟨ss, h⟩ := s.modSession_frame p _
    rw [h]
    exact ⟨_, _, rfl⟩
  · exact ⟨s.sessions, s.positions, rfl⟩

theorem State.forget_frame (h : Handle) :
    ∃ ss ps, s.forget h = { s with sessions := ss, positions := ps } := ⟨_, _, rfl⟩

theorem State.leavePrinter_frame (p : PrinterNo) :
    ∃ xs ps, s.leavePrinter p = { s with printers := xs, ports := ps } := by
  unfold State.leavePrinter
  split
  · exact ⟨s.printers, s.ports, rfl⟩
  · split
    · exact ⟨_, _, rfl⟩
    · exact ⟨_, s.ports, rfl⟩

theorem State.giveBack_frame (key : AccountKey) (d : Nat) :
    ∃ as ts, s.giveBack key d = { s with accounts := as, tenants := ts } := by
  unfold State.giveBack
  obtain ⟨ts, h⟩ := (s.modAccount key fun a => { a with reserved := a.reserved - d }).modTenant_frame key.tenant
    fun t => { t with poolReserved := t.poolReserved - d }
  rw [h]
  exact ⟨_, _, rfl⟩

/-- The Re-hold move, where it is made (R66). -/
theorem State.rehold_frame {h : Handle} {p : PrinterNo} {u : State} (hu : s.rehold h p = some u) :
    ∃ as ts js xs ps, u = { s with accounts := as, tenants := ts, jobs := js, printers := xs, ports := ps } := by
  unfold State.rehold at hu
  split at hu
  · cases hu
  · next j _ =>
    obtain ⟨as, ts, h1⟩ := s.giveBack_frame j.owner j.reserved
    rw [h1] at hu
    simp only [Option.some.injEq] at hu
    subst hu
    generalize hj : State.setJob _ _ _ = v
    obtain ⟨xs, ps, h2⟩ := v.leavePrinter_frame p
    rw [h2, ← hj]
    exact ⟨_, _, _, _, _, rfl⟩

/-- The Finish move, where it is made (R67). -/
theorem State.finish_frame {h : Handle} {p : PrinterNo} {o : JobOutcome} {u : State} (hu : s.finish h p o = some u) :
    ∃ as ts js xs ps sub com, u = { s with
      accounts := as, tenants := ts, jobs := js, printers := xs, ports := ps, submission := sub, completions := com } := by
  unfold State.finish at hu
  split at hu
  · cases hu
  · next j _ =>
    obtain ⟨as, ts, h1⟩ := s.giveBack_frame j.owner j.reserved
    rw [h1] at hu
    simp only [Option.some.injEq] at hu
    subst hu
    generalize hj : State.setJob _ _ _ = v
    obtain ⟨xs, ps, h2⟩ := v.leavePrinter_frame p
    rw [h2, ← hj]
    exact ⟨_, _, _, _, _, _, _, rfl⟩

theorem State.freeRecord_frame (n : RecordNo) :
    ∃ ss ps as ts sub com js fl, s.freeRecord n = { s with
      sessions := ss, positions := ps, accounts := as, tenants := ts, submission := sub, completions := com
      jobs := js, freeList := fl } := by
  unfold State.freeRecord
  split
  · exact ⟨s.sessions, s.positions, s.accounts, s.tenants, s.submission, s.completions, s.jobs, s.freeList, rfl⟩
  · next j _ =>
    dsimp only
    split
    · obtain ⟨ts, h⟩ := ((s.forget (s.handleOf n)).uncountHeld j.owner).modTenant_frame j.owner.tenant
        fun t => { t with liveJobs := t.liveJobs - 1 }
      rw [h]
      exact ⟨_, _, _, _, _, _, _, _, rfl⟩
    · obtain ⟨ts, h⟩ := (s.forget (s.handleOf n)).modTenant_frame j.owner.tenant
        fun t => { t with liveJobs := t.liveJobs - 1 }
      rw [h]
      exact ⟨_, _, s.accounts, _, _, _, _, _, rfl⟩

theorem State.freeWhere_frame (which : Job → Bool) :
    ∃ ss ps as ts sub com js fl, s.freeWhere which = { s with
      sessions := ss, positions := ps, accounts := as, tenants := ts, submission := sub, completions := com
      jobs := js, freeList := fl, draws := s.draws + 1 } := by
  unfold State.freeWhere
  dsimp only
  generalize hu : ({ s with draws := s.draws + 1 } : State) = u
  generalize List.filterMap _ _ = l
  suffices ∃ ss ps as ts sub com js fl, l.foldl State.freeRecord u = { u with
      sessions := ss, positions := ps, accounts := as, tenants := ts, submission := sub, completions := com
      jobs := js, freeList := fl } by
    obtain ⟨ss, ps, as, ts, sub, com, js, fl, h⟩ := this
    rw [h, ← hu]
    exact ⟨_, _, _, _, _, _, _, _, rfl⟩
  clear hu
  induction l generalizing u with
  | nil => exact ⟨u.sessions, u.positions, u.accounts, u.tenants, u.submission, u.completions, u.jobs, u.freeList, rfl⟩
  | cons n l ih =>
    obtain ⟨_, _, _, _, _, _, _, _, h⟩ := u.freeRecord_frame n
    obtain ⟨_, _, _, _, _, _, _, _, h'⟩ := ih (u.freeRecord n)
    rw [List.foldl_cons, h', h]
    exact ⟨_, _, _, _, _, _, _, _, rfl⟩

/-! ### Ports -/

theorem State.answerEnrolment_frame (who : Option (PortNo × Byte)) (st : Status) (b : List Byte) :
    ∃ ps, s.answerEnrolment who st b = { s with ports := ps } := by
  unfold State.answerEnrolment
  split
  · exact ⟨s.ports, rfl⟩
  · split
    · exact ⟨_, rfl⟩
    · exact ⟨s.ports, rfl⟩

theorem State.failEnrolment_frame (p : PrinterNo) (who : Option (PortNo × Byte)) (c : EnrolCause) :
    ∃ xs ps, s.failEnrolment p who c = { s with printers := xs, ports := ps } := by
  unfold State.failEnrolment
  obtain ⟨ps, h⟩ := (s.setPrinter p .absent).answerEnrolment_frame who (.enrolFailed c) []
  rw [h]
  exact ⟨_, _, rfl⟩

/-! ### Charging -/

theorem State.exhaustAccount_frame (key : AccountKey) :
    ∃ as ps, s.exhaustAccount key = { s with accounts := as, ports := ps } := by
  unfold State.exhaustAccount
  split
  · exact ⟨s.accounts, s.ports, rfl⟩
  · split
    · exact ⟨_, _, rfl⟩
    · exact ⟨s.accounts, s.ports, rfl⟩

theorem State.exhaustPool_frame (t : TenantNo) :
    ∃ ts ps, s.exhaustPool t = { s with tenants := ts, ports := ps } := by
  unfold State.exhaustPool
  split
  · exact ⟨s.tenants, s.ports, rfl⟩
  · split
    · exact ⟨_, _, rfl⟩
    · exact ⟨s.tenants, s.ports, rfl⟩

theorem State.grant_frame (p : PrinterNo) (e : Enrolled) (h : Handle) (j : Job) (est : Nat) :
    ∃ as ts js xs ps, s.grant p e h j est = { s with
      accounts := as, tenants := ts, jobs := js, printers := xs, positions := ps } := by
  unfold State.grant
  dsimp only
  generalize hm : State.modAccount _ _ _ = v
  obtain ⟨ts, h⟩ := v.modTenant_frame j.owner.tenant fun t => { t with poolReserved := t.poolReserved + est }
  rw [h, ← hm]
  exact ⟨_, _, _, _, _, rfl⟩

theorem State.chargeSides_frame (h : Handle) (j : Job) (cam colour : Bool) (n : Nat) :
    ∃ js as ts ps, s.chargeSides h j cam colour n = { s with
      jobs := js, accounts := as, tenants := ts, ports := ps } := by
  unfold State.chargeSides
  split
  · exact ⟨s.jobs, s.accounts, s.tenants, s.ports, rfl⟩
  · dsimp only
    generalize hm : State.modAccount _ _ _ = v
    obtain ⟨ts, h1⟩ := v.modTenant_frame j.owner.tenant _
    rw [h1]
    obtain ⟨as, ps, h2⟩ := State.exhaustAccount_frame { v with tenants := ts } j.owner
    rw [h2]
    obtain ⟨ts', ps', h3⟩ := State.exhaustPool_frame
      { v with tenants := ts, accounts := as, ports := ps } j.owner.tenant
    rw [h3, ← hm]
    exact ⟨_, _, _, _, rfl⟩

/-! ### Reorders and slots -/

theorem State.closeReorder_frame (r : Reorder) (st : ReorderState) :
    ∃ rs, s.closeReorder r st = { s with reorders := rs } := ⟨_, rfl⟩

theorem State.urgentTest_frame (p : PrinterNo) (i : Nat) :
    ∃ rs n ps, s.urgentTest p i = { s with reorders := rs, reorderCounter := n, ports := ps } := by
  unfold State.urgentTest
  split
  · split
    · split
      · exact ⟨_, _, _, rfl⟩
      · split
        · exact ⟨_, s.reorderCounter, _, rfl⟩
        · exact ⟨s.reorders, s.reorderCounter, s.ports, rfl⟩
    · exact ⟨s.reorders, s.reorderCounter, s.ports, rfl⟩
  · exact ⟨s.reorders, s.reorderCounter, s.ports, rfl⟩

theorem State.dayCloseTest_frame (p : PrinterNo) (i : Nat) :
    ∃ rs n ps, s.dayCloseTest p i = { s with reorders := rs, reorderCounter := n, ports := ps } := by
  unfold State.dayCloseTest
  split
  · split
    · exact ⟨s.reorders, s.reorderCounter, s.ports, rfl⟩
    · split
      · exact ⟨_, _, _, rfl⟩
      · exact ⟨s.reorders, s.reorderCounter, s.ports, rfl⟩
  · exact ⟨s.reorders, s.reorderCounter, s.ports, rfl⟩

theorem State.reorderReplaced_frame (p : PrinterNo) (i : Nat) (x : Slot) :
    ∃ rs n ps, s.reorderReplaced p i x = { s with reorders := rs, reorderCounter := n, ports := ps } := by
  unfold State.reorderReplaced
  dsimp only
  split
  · exact ⟨_, s.reorderCounter, _, rfl⟩
  · exact ⟨_, _, _, rfl⟩

theorem State.reordersRemoved_frame (p : PrinterNo) :
    ∃ rs ps, s.reordersRemoved p = { s with reorders := rs, ports := ps } := by
  unfold State.reordersRemoved
  dsimp only
  split
  · exact ⟨_, _, rfl⟩
  · exact ⟨_, s.ports, rfl⟩

theorem State.setSlot_frame (p : PrinterNo) (i : Nat) (x : Slot) :
    ∃ xs, s.setSlot p i x = { s with printers := xs } := by
  unfold State.setSlot
  split
  · exact ⟨_, rfl⟩
  · exact ⟨s.printers, rfl⟩

theorem State.consumeSlot_frame (p : PrinterNo) (large : Bool) (n cover i : Nat) :
    ∃ xs rs m ps, s.consumeSlot p large n cover i = { s with
      printers := xs, reorders := rs, reorderCounter := m, ports := ps } := by
  unfold State.consumeSlot
  split
  · next x _ =>
    obtain ⟨xs, h⟩ := s.setSlot_frame p i (x.consume (x.consumption large n cover))
    rw [h]
    obtain ⟨rs, m, ps, h'⟩ := State.urgentTest_frame { s with printers := xs } p i
    rw [h']
    exact ⟨_, _, _, _, rfl⟩
  · exact ⟨s.printers, s.reorders, s.reorderCounter, s.ports, rfl⟩

theorem State.consumeSides_frame (p : PrinterNo) (large : Bool) (n : Nat) (body : List Byte) :
    ∃ xs rs m ps, s.consumeSides p large n body = { s with
      printers := xs, reorders := rs, reorderCounter := m, ports := ps } := by
  unfold State.consumeSides
  generalize List.range _ = l
  induction l generalizing s with
  | nil => exact ⟨s.printers, s.reorders, s.reorderCounter, s.ports, rfl⟩
  | cons i l ih =>
    obtain ⟨_, _, _, _, h⟩ := s.consumeSlot_frame p large n (coverageAt body i) i
    obtain ⟨_, _, _, _, h'⟩ := ih (s.consumeSlot p large n (coverageAt body i) i)
    rw [List.foldl_cons, h', h]
    exact ⟨_, _, _, _, rfl⟩

theorem State.emptySlot_frame (p : PrinterNo) (i : Nat) :
    ∃ xs rs m ps, s.emptySlot p i = { s with printers := xs, reorders := rs, reorderCounter := m, ports := ps } := by
  unfold State.emptySlot
  split
  · next x _ =>
    obtain ⟨xs, h⟩ := s.setSlot_frame p i x.emptied
    rw [h]
    obtain ⟨rs, m, ps, h'⟩ := State.urgentTest_frame { s with printers := xs } p i
    rw [h']
    exact ⟨_, _, _, _, rfl⟩
  · exact ⟨s.printers, s.reorders, s.reorderCounter, s.ports, rfl⟩

theorem State.closeSlot_frame (p : PrinterNo) (i : Nat) :
    ∃ xs rs m ps, s.closeSlot p i = { s with printers := xs, reorders := rs, reorderCounter := m, ports := ps } := by
  unfold State.closeSlot
  split
  · next x _ =>
    obtain ⟨xs, h⟩ := s.setSlot_frame p i x.closeDay
    rw [h]
    obtain ⟨rs, m, ps, h'⟩ := State.dayCloseTest_frame { s with printers := xs } p i
    rw [h']
    exact ⟨_, _, _, _, rfl⟩
  · exact ⟨s.printers, s.reorders, s.reorderCounter, s.ports, rfl⟩

theorem State.closeDay_frame :
    ∃ xs rs m ps, s.closeDay = { s with
      printers := xs, reorders := rs, reorderCounter := m, ports := ps, draws := s.draws + 1 } := by
  unfold State.closeDay
  generalize hu : ({ s with draws := s.draws + 1 } : State) = u
  generalize Config.freeOrder _ _ = l
  suffices ∃ xs rs m ps, l.foldl State.closeSlotOf u = { u with
      printers := xs, reorders := rs, reorderCounter := m, ports := ps } by
    obtain ⟨_, _, _, _, h⟩ := this
    rw [h, ← hu]
    exact ⟨_, _, _, _, rfl⟩
  clear hu
  induction l generalizing u with
  | nil => exact ⟨u.printers, u.reorders, u.reorderCounter, u.ports, rfl⟩
  | cons i l ih =>
    have hc : ∃ xs rs m ps, u.closeSlotOf i = { u with
        printers := xs, reorders := rs, reorderCounter := m, ports := ps } := by
      unfold State.closeSlotOf
      split
      · exact u.closeSlot_frame _ _
      · exact ⟨u.printers, u.reorders, u.reorderCounter, u.ports, rfl⟩
    obtain ⟨_, _, _, _, h⟩ := hc
    obtain ⟨_, _, _, _, h'⟩ := ih (u.closeSlotOf i)
    rw [List.foldl_cons, h', h]
    exact ⟨_, _, _, _, rfl⟩

/-! ### Conditions and callouts -/

theorem State.calloutTakesCode_frame (p : PrinterNo) (cls : CondClass) (code : Byte) :
    ∃ cs ls, s.calloutTakesCode p cls code = { s with callouts := cs, lines := ls } := by
  unfold State.calloutTakesCode
  split
  · split
    · exact ⟨s.callouts, s.lines, rfl⟩
    · exact ⟨_, _, rfl⟩
  · exact ⟨s.callouts, s.lines, rfl⟩

theorem State.clearCallout_frame (p : PrinterNo) (cls : CondClass) :
    ∃ cs ls ps, s.clearCallout p cls = { s with callouts := cs, lines := ls, ports := ps } := by
  unfold State.clearCallout
  split
  · split
    · exact ⟨s.callouts, s.lines, s.ports, rfl⟩
    · exact ⟨_, _, _, rfl⟩
  · exact ⟨s.callouts, s.lines, s.ports, rfl⟩

theorem State.conditionRehold_frame (p : PrinterNo) :
    ∃ as ts js xs po ss ps, s.conditionRehold p = { s with
      accounts := as, tenants := ts, jobs := js, printers := xs, ports := po, sessions := ss, positions := ps } := by
  unfold State.conditionRehold
  split
  · exact ⟨s.accounts, s.tenants, s.jobs, s.printers, s.ports, s.sessions, s.positions, rfl⟩
  · split
    · next u hu =>
      obtain ⟨as, ts, js, xs, po, h⟩ := s.rehold_frame hu
      obtain ⟨ss, as', ps, h'⟩ := (u.setMark p .revoke).endSession_frame p .printerStopped
      rw [h', h]
      exact ⟨_, _, _, _, _, _, _, rfl⟩
    · exact ⟨s.accounts, s.tenants, s.jobs, s.printers, s.ports, s.sessions, s.positions, rfl⟩

theorem State.stopJob_frame (p : PrinterNo) (e : Enrolled) (noAnswer : Bool) :
    ∃ as ts js xs po ss ps, s.stopJob p e noAnswer = { s with
      accounts := as, tenants := ts, jobs := js, printers := xs, ports := po, sessions := ss, positions := ps } := by
  have same : ∃ as ts js xs po ss ps, s = { s with
      accounts := as, tenants := ts, jobs := js, printers := xs, ports := po, sessions := ss, positions := ps } :=
    ⟨s.accounts, s.tenants, s.jobs, s.printers, s.ports, s.sessions, s.positions, rfl⟩
  unfold State.stopJob
  split
  · exact same
  · split
    · exact same
    · split
      · split
        · exact ⟨s.accounts, s.tenants, _, s.printers, s.ports, s.sessions, s.positions, rfl⟩
        · exact s.conditionRehold_frame p
      · split
        · exact s.conditionRehold_frame p
        · exact same
      · exact s.conditionRehold_frame p

theorem State.stopEffects_frame (p : PrinterNo) (noAnswer : Bool) :
    ∃ as ts js xs po ss ps, s.stopEffects p noAnswer = { s with
      accounts := as, tenants := ts, jobs := js, printers := xs, ports := po, sessions := ss, positions := ps } := by
  unfold State.stopEffects
  split
  · next e _ =>
    obtain ⟨as, ts, js, xs, po, ss, ps, h⟩ := s.stopJob_frame p e noAnswer
    generalize s.stopJob p e noAnswer = v at h
    unfold State.stopSession
    split
    · split
      · exact ⟨as, ts, js, xs, po, ss, ps, h⟩
      · obtain ⟨_, _, _, h'⟩ := v.endSession_frame p .printerStopped
        rw [h', h]
        exact ⟨_, _, _, _, _, _, _, rfl⟩
    · exact ⟨as, ts, js, xs, po, ss, ps, h⟩
  · exact ⟨s.accounts, s.tenants, s.jobs, s.printers, s.ports, s.sessions, s.positions, rfl⟩

theorem State.handSlotEmpty_frame (p : PrinterNo) (cls : CondClass) (code : Byte) :
    ∃ xs rs m ps, s.handSlotEmpty p cls code = { s with
      printers := xs, reorders := rs, reorderCounter := m, ports := ps } := by
  unfold State.handSlotEmpty
  split
  · exact s.emptySlot_frame p _
  · exact ⟨s.printers, s.reorders, s.reorderCounter, s.ports, rfl⟩

/-- A class cleared (R154). -/
theorem State.clearClass_frame (p : PrinterNo) (cls : CondClass) :
    ∃ xs cs ls ps, s.clearClass p cls = { s with printers := xs, callouts := cs, lines := ls, ports := ps } := by
  unfold State.clearClass
  split
  · exact ⟨s.printers, s.callouts, s.lines, s.ports, rfl⟩
  · next e _ =>
    split
    · exact ⟨s.printers, s.callouts, s.lines, s.ports, rfl⟩
    · obtain ⟨_, _, _, h⟩ := (s.setClass p e cls 0 none).clearCallout_frame p cls
      rw [h]
      exact ⟨_, _, _, _, rfl⟩

/-- A code taken into a class (R152). -/
theorem State.raiseCode_frame (p : PrinterNo) (cls : CondClass) (code : Byte) (noAnswer : Bool) :
    ∃ xs rs m as ts js po ss ps cs ls, s.raiseCode p cls code noAnswer = { s with
      printers := xs, reorders := rs, reorderCounter := m, accounts := as, tenants := ts, jobs := js, ports := po
      sessions := ss, positions := ps, callouts := cs, lines := ls } := by
  unfold State.raiseCode
  split
  · exact ⟨s.printers, s.reorders, s.reorderCounter, s.accounts, s.tenants, s.jobs, s.ports, s.sessions,
      s.positions, s.callouts, s.lines, rfl⟩
  · next e _ =>
    split
    · generalize hv : State.setClass _ _ _ _ _ _ = v
      obtain ⟨_, _, _, _, h⟩ := v.handSlotEmpty_frame p cls code
      generalize v.handSlotEmpty p cls code = w at h
      obtain ⟨_, _, _, _, _, _, _, h'⟩ := w.stopEffects_frame p noAnswer
      rw [h', h, ← hv]
      exact ⟨_, _, _, _, _, _, _, _, _, s.callouts, s.lines, rfl⟩
    · split
      · obtain ⟨_, _, _, _, h⟩ := s.handSlotEmpty_frame p cls code
        rw [h]
        exact ⟨_, _, _, s.accounts, s.tenants, s.jobs, _, s.sessions, s.positions, s.callouts, s.lines, rfl⟩
      · generalize hv : State.setClass _ _ _ _ _ _ = v
        obtain ⟨_, _, _, _, h⟩ := v.handSlotEmpty_frame p cls code
        generalize v.handSlotEmpty p cls code = w at h
        obtain ⟨_, _, h1⟩ := w.calloutTakesCode_frame p cls code
        generalize w.calloutTakesCode p cls code = x at h1
        obtain ⟨_, _, _, _, _, _, _, h2⟩ := x.stopEffects_frame p noAnswer
        rw [h2, h1, h, ← hv]
        exact ⟨_, _, _, _, _, _, _, _, _, _, _, rfl⟩

/-- A frame heard (R29). -/
theorem State.heard_frame (p : PrinterNo) (keep : Bool) :
    ∃ ps xs cs ls po, s.heard p keep = { s with
      positions := ps, printers := xs, callouts := cs, lines := ls, ports := po } := by
  unfold State.heard
  split
  · exact ⟨s.positions, s.printers, s.callouts, s.lines, s.ports, rfl⟩
  · dsimp only
    split
    · exact ⟨_, s.printers, s.callouts, s.lines, s.ports, rfl⟩
    · generalize hv : State.setPosition _ _ _ = v
      unfold State.clearNoAnswer
      split
      · split
        · obtain ⟨_, _, _, _, h⟩ := v.clearClass_frame p .service
          rw [h, ← hv]
          exact ⟨_, _, _, _, _, rfl⟩
        · rw [← hv]
          exact ⟨_, s.printers, s.callouts, s.lines, s.ports, rfl⟩
      · rw [← hv]
        exact ⟨_, s.printers, s.callouts, s.lines, s.ports, rfl⟩

/-! ### Grants and the arbiters -/

theorem grantFrom_frame (p : PrinterNo) (e : Enrolled) (l : List Handle) :
    ∃ ss ps as ts js xs, grantFrom p e l s = { s with
      sessions := ss, positions := ps, accounts := as, tenants := ts, jobs := js, printers := xs } := by
  induction l generalizing s with
  | nil =>
    obtain ⟨_, _, h⟩ := s.returnToShowing_frame p
    rw [grantFrom, h]
    exact ⟨_, _, s.accounts, s.tenants, s.jobs, s.printers, rfl⟩
  | cons h l ih =>
    rw [grantFrom]
    obtain ⟨ss, h1⟩ := s.modSession_frame p fun x => { x with release := l }
    simp only [h1]
    generalize hv : ({ s with sessions := ss } : State) = v
    have skip : ∃ ss ps as ts js xs, grantFrom p e l v = { s with
        sessions := ss, positions := ps, accounts := as, tenants := ts, jobs := js, printers := xs } := by
      obtain ⟨_, _, _, _, _, _, h'⟩ := ih v
      rw [h', ← hv]
      exact ⟨_, _, _, _, _, _, rfl⟩
    split
    · exact skip
    · next j _ =>
      split
      · split
        · next est _ =>
          obtain ⟨_, _, _, _, _, h'⟩ := v.grant_frame p e h j est
          rw [h', ← hv]
          exact ⟨_, _, _, _, _, _, rfl⟩
        · next reason _ =>
          obtain ⟨_, _, _, _, _, _, h'⟩ := ih (v.noteRefusal p reason j.tag)
          rw [h']
          unfold State.noteRefusal
          obtain ⟨_, h2⟩ := v.modSession_frame p fun x =>
            { x with note := some ⟨reason, j.tag, ((x.note.map (·.count)).getD 0) + 1⟩ }
          rw [h2, ← hv]
          exact ⟨_, _, _, _, _, _, rfl⟩
        · exact skip
      · exact skip

/-- A grant attempt (R90). -/
theorem State.grantAttempt_frame (p : PrinterNo) :
    ∃ ss ps as ts js xs, s.grantAttempt p = { s with
      sessions := ss, positions := ps, accounts := as, tenants := ts, jobs := js, printers := xs } := by
  have same : ∃ ss ps as ts js xs, s = { s with
      sessions := ss, positions := ps, accounts := as, tenants := ts, jobs := js, printers := xs } :=
    ⟨s.sessions, s.positions, s.accounts, s.tenants, s.jobs, s.printers, rfl⟩
  unfold State.grantAttempt
  split
  · split
    · exact grantFrom_frame s p _ _
    · exact same
  · exact same

theorem arbitrate_frame (c : ChannelNo) (rounds : Nat) :
    ∃ cs ps ss, arbitrate c rounds s = { s with channels := cs, positions := ps, sessions := ss } := by
  have same (s : State) : ∃ cs ps ss, s = { s with channels := cs, positions := ps, sessions := ss } :=
    ⟨s.channels, s.positions, s.sessions, rfl⟩
  have built {p : PrinterNo} {kind : MarkKind} {q : RiserRequest} {s s' : State}
      (h : s.buildRequest p kind = some (q, s')) : ∃ ss, s' = { s with sessions := ss } := by
    unfold State.buildRequest at h
    split at h <;> (try split at h) <;> (try split at h) <;>
      first
        | cases h; exact ⟨s.sessions, rfl⟩
        | cases h; exact ⟨_, rfl⟩
        | cases h
  induction rounds generalizing s with
  | zero => exact same s
  | succ rounds ih =>
    rw [arbitrate]
    split
    · split
      · next k kind _ =>
        split
        · next q s' hq =>
          obtain ⟨ss, rfl⟩ := built hq
          exact ⟨_, _, _, rfl⟩
        · obtain ⟨_, _, _, h⟩ := ih (s.clearMark (printerAt c k) kind)
          rw [h]
          exact ⟨_, _, _, rfl⟩
      · split
        · exact ⟨_, s.positions, s.sessions, rfl⟩
        · exact same s
    · exact same s

end Sys2Proof.Machine
end

