-- ==== Sys2Proof/Laws/PerInstr.lean ====
section
/-! SUPPORT. The statements made for every command as syntax, each with one lemma per constructor. -/

namespace Sys2Proof.Laws

/-- A well-formed command's body is one its link carries (R29, R173). -/
def BodyFits.Statement (i : Instr) : Prop := i.wellFormed = true → i.body.length ≤ i.bodyMax

/-- The first test of `Instr.wellFormed` is the body's length. -/
theorem bodyFits_of_wellFormed (i : Instr) : BodyFits.Statement i := by
  intro h
  unfold Instr.wellFormed at h
  simp only [Bool.and_eq_true, decide_eq_true_eq] at h
  exact h.1

theorem BodyFits.powerOn : BodyFits.Statement (.powerOn) :=
  bodyFits_of_wellFormed _
theorem BodyFits.secondMark : BodyFits.Statement (.secondMark) :=
  bodyFits_of_wellFormed _
theorem BodyFits.dayClose : BodyFits.Statement (.dayClose) :=
  bodyFits_of_wellFormed _
theorem BodyFits.minuteMark : BodyFits.Statement (.minuteMark) :=
  bodyFits_of_wellFormed _
theorem BodyFits.jobExpire : BodyFits.Statement (.jobExpire) :=
  bodyFits_of_wellFormed _
theorem BodyFits.windowTimerExpiry (printer : PrinterNo) : BodyFits.Statement (.windowTimerExpiry printer) :=
  bodyFits_of_wellFormed _
theorem BodyFits.startTimerExpiry (printer : PrinterNo) : BodyFits.Statement (.startTimerExpiry printer) :=
  bodyFits_of_wellFormed _
theorem BodyFits.suspendTimerExpiry (printer : PrinterNo) : BodyFits.Statement (.suspendTimerExpiry printer) :=
  bodyFits_of_wellFormed _
theorem BodyFits.graceTimerExpiry (printer : PrinterNo) (cls : CondClass) : BodyFits.Statement (.graceTimerExpiry printer cls) :=
  bodyFits_of_wellFormed _
theorem BodyFits.silenceTimerExpiry (c : ChannelNo) (k : PositionNo) : BodyFits.Statement (.silenceTimerExpiry c k) :=
  bodyFits_of_wellFormed _
theorem BodyFits.requestAnswerTimeout (c : ChannelNo) : BodyFits.Statement (.requestAnswerTimeout c) :=
  bodyFits_of_wellFormed _
theorem BodyFits.reportCallTimeout (c : ChannelNo) : BodyFits.Statement (.reportCallTimeout c) :=
  bodyFits_of_wellFormed _
theorem BodyFits.serviceRequestActive (c : ChannelNo) (k : PositionNo) : BodyFits.Statement (.serviceRequestActive c k) :=
  bodyFits_of_wellFormed _
theorem BodyFits.describeAnswer (c : ChannelNo) (k : PositionNo) (body : List Byte) : BodyFits.Statement (.describeAnswer c k body) :=
  bodyFits_of_wellFormed _
theorem BodyFits.grantAnswer (c : ChannelNo) (k : PositionNo) (body : List Byte) : BodyFits.Statement (.grantAnswer c k body) :=
  bodyFits_of_wellFormed _
theorem BodyFits.acknowledgementAnswer (c : ChannelNo) (k : PositionNo) (kind : Byte) (body : List Byte) : BodyFits.Statement (.acknowledgementAnswer c k kind body) :=
  bodyFits_of_wellFormed _
theorem BodyFits.probeAnswer (c : ChannelNo) (k : PositionNo) (body : List Byte) : BodyFits.Statement (.probeAnswer c k body) :=
  bodyFits_of_wellFormed _
theorem BodyFits.strayFrame (c : ChannelNo) (k : PositionNo) (cls kind : Byte) (body : List Byte) : BodyFits.Statement (.strayFrame c k cls kind body) :=
  bodyFits_of_wellFormed _
theorem BodyFits.riserFrameDiscarded (c : ChannelNo) (bytes : List Byte) : BodyFits.Statement (.riserFrameDiscarded c bytes) :=
  bodyFits_of_wellFormed _
theorem BodyFits.nothing (c : ChannelNo) (k : PositionNo) (line : Bool) : BodyFits.Statement (.nothing c k line) :=
  bodyFits_of_wellFormed _
theorem BodyFits.unknownKind (c : ChannelNo) (k : PositionNo) (kind : Byte) (body : List Byte) (line : Bool) : BodyFits.Statement (.unknownKind c k kind body line) :=
  bodyFits_of_wellFormed _
theorem BodyFits.present (c : ChannelNo) (k : PositionNo) (body : List Byte) (line : Bool) : BodyFits.Statement (.present c k body line) :=
  bodyFits_of_wellFormed _
theorem BodyFits.select (c : ChannelNo) (k : PositionNo) (body : List Byte) (line : Bool) : BodyFits.Statement (.select c k body line) :=
  bodyFits_of_wellFormed _
theorem BodyFits.logout (c : ChannelNo) (k : PositionNo) (body : List Byte) (line : Bool) : BodyFits.Statement (.logout c k body line) :=
  bodyFits_of_wellFormed _
theorem BodyFits.jobStart (c : ChannelNo) (k : PositionNo) (body : List Byte) (line : Bool) : BodyFits.Statement (.jobStart c k body line) :=
  bodyFits_of_wellFormed _
theorem BodyFits.sides (c : ChannelNo) (k : PositionNo) (body : List Byte) (line : Bool) : BodyFits.Statement (.sides c k body line) :=
  bodyFits_of_wellFormed _
theorem BodyFits.jobResumed (c : ChannelNo) (k : PositionNo) (body : List Byte) (line : Bool) : BodyFits.Statement (.jobResumed c k body line) :=
  bodyFits_of_wellFormed _
theorem BodyFits.jobEnd (c : ChannelNo) (k : PositionNo) (body : List Byte) (line : Bool) : BodyFits.Statement (.jobEnd c k body line) :=
  bodyFits_of_wellFormed _
theorem BodyFits.condition (c : ChannelNo) (k : PositionNo) (body : List Byte) (line : Bool) : BodyFits.Statement (.condition c k body line) :=
  bodyFits_of_wellFormed _
theorem BodyFits.cartridge (c : ChannelNo) (k : PositionNo) (body : List Byte) (line : Bool) : BodyFits.Statement (.cartridge c k body line) :=
  bodyFits_of_wellFormed _
theorem BodyFits.towerFrameDiscarded (port : PortNo) (bytes : List Byte) : BodyFits.Statement (.towerFrameDiscarded port bytes) :=
  bodyFits_of_wellFormed _
theorem BodyFits.overlap (port : PortNo) (code tag : Byte) (body : List Byte) : BodyFits.Statement (.overlap port code tag body) :=
  bodyFits_of_wellFormed _
theorem BodyFits.unknownRequest (port : PortNo) (code tag : Byte) (body : List Byte) : BodyFits.Statement (.unknownRequest port code tag body) :=
  bodyFits_of_wellFormed _
theorem BodyFits.transmitterBegin (port : PortNo) : BodyFits.Statement (.transmitterBegin port) :=
  bodyFits_of_wellFormed _
theorem BodyFits.frameSentWhole (port : PortNo) : BodyFits.Statement (.frameSentWhole port) :=
  bodyFits_of_wellFormed _
theorem BodyFits.enrolPrinter (port : PortNo) (tag : Byte) (body : List Byte) : BodyFits.Statement (.enrolPrinter port tag body) :=
  bodyFits_of_wellFormed _
theorem BodyFits.disablePrinter (port : PortNo) (tag : Byte) (body : List Byte) : BodyFits.Statement (.disablePrinter port tag body) :=
  bodyFits_of_wellFormed _
theorem BodyFits.enablePrinter (port : PortNo) (tag : Byte) (body : List Byte) : BodyFits.Statement (.enablePrinter port tag body) :=
  bodyFits_of_wellFormed _
theorem BodyFits.removePrinter (port : PortNo) (tag : Byte) (body : List Byte) : BodyFits.Statement (.removePrinter port tag body) :=
  bodyFits_of_wellFormed _
theorem BodyFits.setSharing (port : PortNo) (tag : Byte) (body : List Byte) : BodyFits.Statement (.setSharing port tag body) :=
  bodyFits_of_wellFormed _
theorem BodyFits.queryPrinter (port : PortNo) (tag : Byte) (body : List Byte) : BodyFits.Statement (.queryPrinter port tag body) :=
  bodyFits_of_wellFormed _
theorem BodyFits.resetChannel (port : PortNo) (tag : Byte) (body : List Byte) : BodyFits.Statement (.resetChannel port tag body) :=
  bodyFits_of_wellFormed _
theorem BodyFits.defineTenant (port : PortNo) (tag : Byte) (body : List Byte) : BodyFits.Statement (.defineTenant port tag body) :=
  bodyFits_of_wellFormed _
theorem BodyFits.amendTenant (port : PortNo) (tag : Byte) (body : List Byte) : BodyFits.Statement (.amendTenant port tag body) :=
  bodyFits_of_wellFormed _
theorem BodyFits.removeTenant (port : PortNo) (tag : Byte) (body : List Byte) : BodyFits.Statement (.removeTenant port tag body) :=
  bodyFits_of_wellFormed _
theorem BodyFits.renewPool (port : PortNo) (tag : Byte) (body : List Byte) : BodyFits.Statement (.renewPool port tag body) :=
  bodyFits_of_wellFormed _
theorem BodyFits.queryTenant (port : PortNo) (tag : Byte) (body : List Byte) : BodyFits.Statement (.queryTenant port tag body) :=
  bodyFits_of_wellFormed _
theorem BodyFits.createAccount (port : PortNo) (tag : Byte) (body : List Byte) : BodyFits.Statement (.createAccount port tag body) :=
  bodyFits_of_wellFormed _
theorem BodyFits.amendAccount (port : PortNo) (tag : Byte) (body : List Byte) : BodyFits.Statement (.amendAccount port tag body) :=
  bodyFits_of_wellFormed _
theorem BodyFits.removeAccount (port : PortNo) (tag : Byte) (body : List Byte) : BodyFits.Statement (.removeAccount port tag body) :=
  bodyFits_of_wellFormed _
theorem BodyFits.queryAccount (port : PortNo) (tag : Byte) (body : List Byte) : BodyFits.Statement (.queryAccount port tag body) :=
  bodyFits_of_wellFormed _
theorem BodyFits.renewPeriod (port : PortNo) (tag : Byte) (body : List Byte) : BodyFits.Statement (.renewPeriod port tag body) :=
  bodyFits_of_wellFormed _
theorem BodyFits.submitJob (port : PortNo) (tag : Byte) (body : List Byte) : BodyFits.Statement (.submitJob port tag body) :=
  bodyFits_of_wellFormed _
theorem BodyFits.withdraw (port : PortNo) (tag : Byte) (body : List Byte) : BodyFits.Statement (.withdraw port tag body) :=
  bodyFits_of_wellFormed _
theorem BodyFits.queryJob (port : PortNo) (tag : Byte) (body : List Byte) : BodyFits.Statement (.queryJob port tag body) :=
  bodyFits_of_wellFormed _
theorem BodyFits.takeCompletions (port : PortNo) (tag : Byte) (body : List Byte) : BodyFits.Statement (.takeCompletions port tag body) :=
  bodyFits_of_wellFormed _
theorem BodyFits.querySlot (port : PortNo) (tag : Byte) (body : List Byte) : BodyFits.Statement (.querySlot port tag body) :=
  bodyFits_of_wellFormed _
theorem BodyFits.takeOrders (port : PortNo) (tag : Byte) (body : List Byte) : BodyFits.Statement (.takeOrders port tag body) :=
  bodyFits_of_wellFormed _
theorem BodyFits.confirmOrder (port : PortNo) (tag : Byte) (body : List Byte) : BodyFits.Statement (.confirmOrder port tag body) :=
  bodyFits_of_wellFormed _
theorem BodyFits.cancelOrder (port : PortNo) (tag : Byte) (body : List Byte) : BodyFits.Statement (.cancelOrder port tag body) :=
  bodyFits_of_wellFormed _
theorem BodyFits.setLeadTime (port : PortNo) (tag : Byte) (body : List Byte) : BodyFits.Statement (.setLeadTime port tag body) :=
  bodyFits_of_wellFormed _
theorem BodyFits.queryOrder (port : PortNo) (tag : Byte) (body : List Byte) : BodyFits.Statement (.queryOrder port tag body) :=
  bodyFits_of_wellFormed _
theorem BodyFits.acknowledgeCallout (port : PortNo) (tag : Byte) (body : List Byte) : BodyFits.Statement (.acknowledgeCallout port tag body) :=
  bodyFits_of_wellFormed _
theorem BodyFits.closeCallout (port : PortNo) (tag : Byte) (body : List Byte) : BodyFits.Statement (.closeCallout port tag body) :=
  bodyFits_of_wellFormed _
theorem BodyFits.queryCallouts (port : PortNo) (tag : Byte) (body : List Byte) : BodyFits.Statement (.queryCallouts port tag body) :=
  bodyFits_of_wellFormed _
theorem BodyFits.bindPort (port : PortNo) (tag : Byte) (body : List Byte) : BodyFits.Statement (.bindPort port tag body) :=
  bodyFits_of_wellFormed _
theorem BodyFits.resetPort (port : PortNo) (tag : Byte) (body : List Byte) : BodyFits.Statement (.resetPort port tag body) :=
  bodyFits_of_wellFormed _
theorem BodyFits.queryPort (port : PortNo) (tag : Byte) (body : List Byte) : BodyFits.Statement (.queryPort port tag body) :=
  bodyFits_of_wellFormed _
theorem BodyFits.readAttention (port : PortNo) (tag : Byte) (body : List Byte) : BodyFits.Statement (.readAttention port tag body) :=
  bodyFits_of_wellFormed _
theorem BodyFits.clearAttention (port : PortNo) (tag : Byte) (body : List Byte) : BodyFits.Statement (.clearAttention port tag body) :=
  bodyFits_of_wellFormed _
theorem BodyFits.setMask (port : PortNo) (tag : Byte) (body : List Byte) : BodyFits.Statement (.setMask port tag body) :=
  bodyFits_of_wellFormed _
theorem BodyFits.setClock (port : PortNo) (tag : Byte) (body : List Byte) : BodyFits.Statement (.setClock port tag body) :=
  bodyFits_of_wellFormed _
theorem BodyFits.fleetReset (port : PortNo) (tag : Byte) (body : List Byte) : BodyFits.Statement (.fleetReset port tag body) :=
  bodyFits_of_wellFormed _

end Sys2Proof.Laws
end

