-- ==== Sys2Proof/Laws/Requests.lean ====
section
/-! SUPPORT. One lemma per field, and per shared reading, for the updates that a request makes to its port's entry:
they change nothing but the port table. All true by `rfl`. -/

namespace Sys2Proof.Machine

variable (s : State)

@[simp] theorem State.begun_printers (port : PortNo) (r : Request) (tag : Byte) :
    (s.begun port r tag).printers = s.printers := rfl
@[simp] theorem State.begun_channels (port : PortNo) (r : Request) (tag : Byte) :
    (s.begun port r tag).channels = s.channels := rfl
@[simp] theorem State.begun_positions (port : PortNo) (r : Request) (tag : Byte) :
    (s.begun port r tag).positions = s.positions := rfl
@[simp] theorem State.begun_serviceLines (port : PortNo) (r : Request) (tag : Byte) :
    (s.begun port r tag).serviceLines = s.serviceLines := rfl
@[simp] theorem State.begun_reportAnswers (port : PortNo) (r : Request) (tag : Byte) :
    (s.begun port r tag).reportAnswers = s.reportAnswers := rfl
@[simp] theorem State.begun_tenants (port : PortNo) (r : Request) (tag : Byte) :
    (s.begun port r tag).tenants = s.tenants := rfl
@[simp] theorem State.begun_accounts (port : PortNo) (r : Request) (tag : Byte) :
    (s.begun port r tag).accounts = s.accounts := rfl
@[simp] theorem State.begun_jobs (port : PortNo) (r : Request) (tag : Byte) :
    (s.begun port r tag).jobs = s.jobs := rfl
@[simp] theorem State.begun_freeList (port : PortNo) (r : Request) (tag : Byte) :
    (s.begun port r tag).freeList = s.freeList := rfl
@[simp] theorem State.begun_submission (port : PortNo) (r : Request) (tag : Byte) :
    (s.begun port r tag).submission = s.submission := rfl
@[simp] theorem State.begun_completions (port : PortNo) (r : Request) (tag : Byte) :
    (s.begun port r tag).completions = s.completions := rfl
@[simp] theorem State.begun_sessions (port : PortNo) (r : Request) (tag : Byte) :
    (s.begun port r tag).sessions = s.sessions := rfl
@[simp] theorem State.begun_reorders (port : PortNo) (r : Request) (tag : Byte) :
    (s.begun port r tag).reorders = s.reorders := rfl
@[simp] theorem State.begun_reorderCounter (port : PortNo) (r : Request) (tag : Byte) :
    (s.begun port r tag).reorderCounter = s.reorderCounter := rfl
@[simp] theorem State.begun_leadDays (port : PortNo) (r : Request) (tag : Byte) :
    (s.begun port r tag).leadDays = s.leadDays := rfl
@[simp] theorem State.begun_safetyDays (port : PortNo) (r : Request) (tag : Byte) :
    (s.begun port r tag).safetyDays = s.safetyDays := rfl
@[simp] theorem State.begun_callouts (port : PortNo) (r : Request) (tag : Byte) :
    (s.begun port r tag).callouts = s.callouts := rfl
@[simp] theorem State.begun_lines (port : PortNo) (r : Request) (tag : Byte) :
    (s.begun port r tag).lines = s.lines := rfl
@[simp] theorem State.begun_clock (port : PortNo) (r : Request) (tag : Byte) :
    (s.begun port r tag).clock = s.clock := rfl
@[simp] theorem State.begun_minuteMarksDue (port : PortNo) (r : Request) (tag : Byte) :
    (s.begun port r tag).minuteMarksDue = s.minuteMarksDue := rfl
@[simp] theorem State.begun_dayClosesDue (port : PortNo) (r : Request) (tag : Byte) :
    (s.begun port r tag).dayClosesDue = s.dayClosesDue := rfl
@[simp] theorem State.begun_lastMinuteMark (port : PortNo) (r : Request) (tag : Byte) :
    (s.begun port r tag).lastMinuteMark = s.lastMinuteMark := rfl
@[simp] theorem State.begun_draws (port : PortNo) (r : Request) (tag : Byte) :
    (s.begun port r tag).draws = s.draws := rfl
@[simp] theorem State.begun_pending (port : PortNo) (r : Request) (tag : Byte) :
    (s.begun port r tag).pending = s.pending := rfl
@[simp] theorem State.begun_enrolled (port : PortNo) (r : Request) (tag : Byte) (p : PrinterNo) :
    (s.begun port r tag).enrolled p = s.enrolled p := rfl
@[simp] theorem State.begun_activeJob (port : PortNo) (r : Request) (tag : Byte) (p : PrinterNo) :
    (s.begun port r tag).activeJob p = s.activeJob p := rfl
@[simp] theorem State.begun_slot (port : PortNo) (r : Request) (tag : Byte) (p : PrinterNo) (i : Nat) :
    (s.begun port r tag).slot p i = s.slot p i := rfl
@[simp] theorem State.begun_openReorder (port : PortNo) (r : Request) (tag : Byte) (p : PrinterNo) (i : Nat) :
    (s.begun port r tag).openReorder p i = s.openReorder p i := rfl
@[simp] theorem State.begun_account (port : PortNo) (r : Request) (tag : Byte) (key : AccountKey) :
    (s.begun port r tag).account key = s.account key := rfl
@[simp] theorem State.begun_jobAt (port : PortNo) (r : Request) (tag : Byte) (n : RecordNo) :
    (s.begun port r tag).jobAt n = s.jobAt n := rfl
@[simp] theorem State.begun_handleOf (port : PortNo) (r : Request) (tag : Byte) (n : RecordNo) :
    (s.begun port r tag).handleOf n = s.handleOf n := rfl
@[simp] theorem State.begun_job (port : PortNo) (r : Request) (tag : Byte) (h : Handle) :
    (s.begun port r tag).job h = s.job h := rfl
@[simp] theorem State.begun_defined (port : PortNo) (r : Request) (tag : Byte) (t : TenantNo) :
    (s.begun port r tag).defined t = s.defined t := rfl
@[simp] theorem State.begun_holdTime (port : PortNo) (r : Request) (tag : Byte) (t : TenantNo) :
    (s.begun port r tag).holdTime t = s.holdTime t := rfl
@[simp] theorem State.begun_reorder (port : PortNo) (r : Request) (tag : Byte) (n : Nat) :
    (s.begun port r tag).reorder n = s.reorder n := rfl
@[simp] theorem State.begun_callout (port : PortNo) (r : Request) (tag : Byte) (p : PrinterNo) (cls : CondClass) :
    (s.begun port r tag).callout p cls = s.callout p cls := rfl
@[simp] theorem State.begun_sharingDefined (port : PortNo) (r : Request) (tag : Byte) (sh : Sharing) :
    (s.begun port r tag).sharingDefined sh = s.sharingDefined sh := rfl

@[simp] theorem State.replied_printers (port : PortNo) (r : Request) (tag : Byte) (st : Status) (b : List Byte) :
    (s.replied port r tag st b).printers = s.printers := rfl
@[simp] theorem State.replied_channels (port : PortNo) (r : Request) (tag : Byte) (st : Status) (b : List Byte) :
    (s.replied port r tag st b).channels = s.channels := rfl
@[simp] theorem State.replied_positions (port : PortNo) (r : Request) (tag : Byte) (st : Status) (b : List Byte) :
    (s.replied port r tag st b).positions = s.positions := rfl
@[simp] theorem State.replied_serviceLines (port : PortNo) (r : Request) (tag : Byte) (st : Status) (b : List Byte) :
    (s.replied port r tag st b).serviceLines = s.serviceLines := rfl
@[simp] theorem State.replied_reportAnswers (port : PortNo) (r : Request) (tag : Byte) (st : Status) (b : List Byte) :
    (s.replied port r tag st b).reportAnswers = s.reportAnswers := rfl
@[simp] theorem State.replied_tenants (port : PortNo) (r : Request) (tag : Byte) (st : Status) (b : List Byte) :
    (s.replied port r tag st b).tenants = s.tenants := rfl
@[simp] theorem State.replied_accounts (port : PortNo) (r : Request) (tag : Byte) (st : Status) (b : List Byte) :
    (s.replied port r tag st b).accounts = s.accounts := rfl
@[simp] theorem State.replied_jobs (port : PortNo) (r : Request) (tag : Byte) (st : Status) (b : List Byte) :
    (s.replied port r tag st b).jobs = s.jobs := rfl
@[simp] theorem State.replied_freeList (port : PortNo) (r : Request) (tag : Byte) (st : Status) (b : List Byte) :
    (s.replied port r tag st b).freeList = s.freeList := rfl
@[simp] theorem State.replied_submission (port : PortNo) (r : Request) (tag : Byte) (st : Status) (b : List Byte) :
    (s.replied port r tag st b).submission = s.submission := rfl
@[simp] theorem State.replied_completions (port : PortNo) (r : Request) (tag : Byte) (st : Status) (b : List Byte) :
    (s.replied port r tag st b).completions = s.completions := rfl
@[simp] theorem State.replied_sessions (port : PortNo) (r : Request) (tag : Byte) (st : Status) (b : List Byte) :
    (s.replied port r tag st b).sessions = s.sessions := rfl
@[simp] theorem State.replied_reorders (port : PortNo) (r : Request) (tag : Byte) (st : Status) (b : List Byte) :
    (s.replied port r tag st b).reorders = s.reorders := rfl
@[simp] theorem State.replied_reorderCounter (port : PortNo) (r : Request) (tag : Byte) (st : Status) (b : List Byte) :
    (s.replied port r tag st b).reorderCounter = s.reorderCounter := rfl
@[simp] theorem State.replied_leadDays (port : PortNo) (r : Request) (tag : Byte) (st : Status) (b : List Byte) :
    (s.replied port r tag st b).leadDays = s.leadDays := rfl
@[simp] theorem State.replied_safetyDays (port : PortNo) (r : Request) (tag : Byte) (st : Status) (b : List Byte) :
    (s.replied port r tag st b).safetyDays = s.safetyDays := rfl
@[simp] theorem State.replied_callouts (port : PortNo) (r : Request) (tag : Byte) (st : Status) (b : List Byte) :
    (s.replied port r tag st b).callouts = s.callouts := rfl
@[simp] theorem State.replied_lines (port : PortNo) (r : Request) (tag : Byte) (st : Status) (b : List Byte) :
    (s.replied port r tag st b).lines = s.lines := rfl
@[simp] theorem State.replied_clock (port : PortNo) (r : Request) (tag : Byte) (st : Status) (b : List Byte) :
    (s.replied port r tag st b).clock = s.clock := rfl
@[simp] theorem State.replied_minuteMarksDue (port : PortNo) (r : Request) (tag : Byte) (st : Status) (b : List Byte) :
    (s.replied port r tag st b).minuteMarksDue = s.minuteMarksDue := rfl
@[simp] theorem State.replied_dayClosesDue (port : PortNo) (r : Request) (tag : Byte) (st : Status) (b : List Byte) :
    (s.replied port r tag st b).dayClosesDue = s.dayClosesDue := rfl
@[simp] theorem State.replied_lastMinuteMark (port : PortNo) (r : Request) (tag : Byte) (st : Status) (b : List Byte) :
    (s.replied port r tag st b).lastMinuteMark = s.lastMinuteMark := rfl
@[simp] theorem State.replied_draws (port : PortNo) (r : Request) (tag : Byte) (st : Status) (b : List Byte) :
    (s.replied port r tag st b).draws = s.draws := rfl
@[simp] theorem State.replied_pending (port : PortNo) (r : Request) (tag : Byte) (st : Status) (b : List Byte) :
    (s.replied port r tag st b).pending = s.pending := rfl
@[simp] theorem State.replied_enrolled (port : PortNo) (r : Request) (tag : Byte) (st : Status) (b : List Byte) (p : PrinterNo) :
    (s.replied port r tag st b).enrolled p = s.enrolled p := rfl
@[simp] theorem State.replied_activeJob (port : PortNo) (r : Request) (tag : Byte) (st : Status) (b : List Byte) (p : PrinterNo) :
    (s.replied port r tag st b).activeJob p = s.activeJob p := rfl
@[simp] theorem State.replied_slot (port : PortNo) (r : Request) (tag : Byte) (st : Status) (b : List Byte) (p : PrinterNo) (i : Nat) :
    (s.replied port r tag st b).slot p i = s.slot p i := rfl
@[simp] theorem State.replied_openReorder (port : PortNo) (r : Request) (tag : Byte) (st : Status) (b : List Byte) (p : PrinterNo) (i : Nat) :
    (s.replied port r tag st b).openReorder p i = s.openReorder p i := rfl
@[simp] theorem State.replied_account (port : PortNo) (r : Request) (tag : Byte) (st : Status) (b : List Byte) (key : AccountKey) :
    (s.replied port r tag st b).account key = s.account key := rfl
@[simp] theorem State.replied_jobAt (port : PortNo) (r : Request) (tag : Byte) (st : Status) (b : List Byte) (n : RecordNo) :
    (s.replied port r tag st b).jobAt n = s.jobAt n := rfl
@[simp] theorem State.replied_handleOf (port : PortNo) (r : Request) (tag : Byte) (st : Status) (b : List Byte) (n : RecordNo) :
    (s.replied port r tag st b).handleOf n = s.handleOf n := rfl
@[simp] theorem State.replied_job (port : PortNo) (r : Request) (tag : Byte) (st : Status) (b : List Byte) (h : Handle) :
    (s.replied port r tag st b).job h = s.job h := rfl
@[simp] theorem State.replied_defined (port : PortNo) (r : Request) (tag : Byte) (st : Status) (b : List Byte) (t : TenantNo) :
    (s.replied port r tag st b).defined t = s.defined t := rfl
@[simp] theorem State.replied_holdTime (port : PortNo) (r : Request) (tag : Byte) (st : Status) (b : List Byte) (t : TenantNo) :
    (s.replied port r tag st b).holdTime t = s.holdTime t := rfl
@[simp] theorem State.replied_reorder (port : PortNo) (r : Request) (tag : Byte) (st : Status) (b : List Byte) (n : Nat) :
    (s.replied port r tag st b).reorder n = s.reorder n := rfl
@[simp] theorem State.replied_callout (port : PortNo) (r : Request) (tag : Byte) (st : Status) (b : List Byte) (p : PrinterNo) (cls : CondClass) :
    (s.replied port r tag st b).callout p cls = s.callout p cls := rfl
@[simp] theorem State.replied_sharingDefined (port : PortNo) (r : Request) (tag : Byte) (st : Status) (b : List Byte) (sh : Sharing) :
    (s.replied port r tag st b).sharingDefined sh = s.sharingDefined sh := rfl

@[simp] theorem State.acceptedWith_printers (port : PortNo) (r : Request) (tag : Byte) (b : List Byte) :
    (s.acceptedWith port r tag b).printers = s.printers := rfl
@[simp] theorem State.acceptedWith_channels (port : PortNo) (r : Request) (tag : Byte) (b : List Byte) :
    (s.acceptedWith port r tag b).channels = s.channels := rfl
@[simp] theorem State.acceptedWith_positions (port : PortNo) (r : Request) (tag : Byte) (b : List Byte) :
    (s.acceptedWith port r tag b).positions = s.positions := rfl
@[simp] theorem State.acceptedWith_serviceLines (port : PortNo) (r : Request) (tag : Byte) (b : List Byte) :
    (s.acceptedWith port r tag b).serviceLines = s.serviceLines := rfl
@[simp] theorem State.acceptedWith_reportAnswers (port : PortNo) (r : Request) (tag : Byte) (b : List Byte) :
    (s.acceptedWith port r tag b).reportAnswers = s.reportAnswers := rfl
@[simp] theorem State.acceptedWith_tenants (port : PortNo) (r : Request) (tag : Byte) (b : List Byte) :
    (s.acceptedWith port r tag b).tenants = s.tenants := rfl
@[simp] theorem State.acceptedWith_accounts (port : PortNo) (r : Request) (tag : Byte) (b : List Byte) :
    (s.acceptedWith port r tag b).accounts = s.accounts := rfl
@[simp] theorem State.acceptedWith_jobs (port : PortNo) (r : Request) (tag : Byte) (b : List Byte) :
    (s.acceptedWith port r tag b).jobs = s.jobs := rfl
@[simp] theorem State.acceptedWith_freeList (port : PortNo) (r : Request) (tag : Byte) (b : List Byte) :
    (s.acceptedWith port r tag b).freeList = s.freeList := rfl
@[simp] theorem State.acceptedWith_submission (port : PortNo) (r : Request) (tag : Byte) (b : List Byte) :
    (s.acceptedWith port r tag b).submission = s.submission := rfl
@[simp] theorem State.acceptedWith_completions (port : PortNo) (r : Request) (tag : Byte) (b : List Byte) :
    (s.acceptedWith port r tag b).completions = s.completions := rfl
@[simp] theorem State.acceptedWith_sessions (port : PortNo) (r : Request) (tag : Byte) (b : List Byte) :
    (s.acceptedWith port r tag b).sessions = s.sessions := rfl
@[simp] theorem State.acceptedWith_reorders (port : PortNo) (r : Request) (tag : Byte) (b : List Byte) :
    (s.acceptedWith port r tag b).reorders = s.reorders := rfl
@[simp] theorem State.acceptedWith_reorderCounter (port : PortNo) (r : Request) (tag : Byte) (b : List Byte) :
    (s.acceptedWith port r tag b).reorderCounter = s.reorderCounter := rfl
@[simp] theorem State.acceptedWith_leadDays (port : PortNo) (r : Request) (tag : Byte) (b : List Byte) :
    (s.acceptedWith port r tag b).leadDays = s.leadDays := rfl
@[simp] theorem State.acceptedWith_safetyDays (port : PortNo) (r : Request) (tag : Byte) (b : List Byte) :
    (s.acceptedWith port r tag b).safetyDays = s.safetyDays := rfl
@[simp] theorem State.acceptedWith_callouts (port : PortNo) (r : Request) (tag : Byte) (b : List Byte) :
    (s.acceptedWith port r tag b).callouts = s.callouts := rfl
@[simp] theorem State.acceptedWith_lines (port : PortNo) (r : Request) (tag : Byte) (b : List Byte) :
    (s.acceptedWith port r tag b).lines = s.lines := rfl
@[simp] theorem State.acceptedWith_clock (port : PortNo) (r : Request) (tag : Byte) (b : List Byte) :
    (s.acceptedWith port r tag b).clock = s.clock := rfl
@[simp] theorem State.acceptedWith_minuteMarksDue (port : PortNo) (r : Request) (tag : Byte) (b : List Byte) :
    (s.acceptedWith port r tag b).minuteMarksDue = s.minuteMarksDue := rfl
@[simp] theorem State.acceptedWith_dayClosesDue (port : PortNo) (r : Request) (tag : Byte) (b : List Byte) :
    (s.acceptedWith port r tag b).dayClosesDue = s.dayClosesDue := rfl
@[simp] theorem State.acceptedWith_lastMinuteMark (port : PortNo) (r : Request) (tag : Byte) (b : List Byte) :
    (s.acceptedWith port r tag b).lastMinuteMark = s.lastMinuteMark := rfl
@[simp] theorem State.acceptedWith_draws (port : PortNo) (r : Request) (tag : Byte) (b : List Byte) :
    (s.acceptedWith port r tag b).draws = s.draws := rfl
@[simp] theorem State.acceptedWith_pending (port : PortNo) (r : Request) (tag : Byte) (b : List Byte) :
    (s.acceptedWith port r tag b).pending = s.pending := rfl
@[simp] theorem State.acceptedWith_enrolled (port : PortNo) (r : Request) (tag : Byte) (b : List Byte) (p : PrinterNo) :
    (s.acceptedWith port r tag b).enrolled p = s.enrolled p := rfl
@[simp] theorem State.acceptedWith_activeJob (port : PortNo) (r : Request) (tag : Byte) (b : List Byte) (p : PrinterNo) :
    (s.acceptedWith port r tag b).activeJob p = s.activeJob p := rfl
@[simp] theorem State.acceptedWith_slot (port : PortNo) (r : Request) (tag : Byte) (b : List Byte) (p : PrinterNo) (i : Nat) :
    (s.acceptedWith port r tag b).slot p i = s.slot p i := rfl
@[simp] theorem State.acceptedWith_openReorder (port : PortNo) (r : Request) (tag : Byte) (b : List Byte) (p : PrinterNo) (i : Nat) :
    (s.acceptedWith port r tag b).openReorder p i = s.openReorder p i := rfl
@[simp] theorem State.acceptedWith_account (port : PortNo) (r : Request) (tag : Byte) (b : List Byte) (key : AccountKey) :
    (s.acceptedWith port r tag b).account key = s.account key := rfl
@[simp] theorem State.acceptedWith_jobAt (port : PortNo) (r : Request) (tag : Byte) (b : List Byte) (n : RecordNo) :
    (s.acceptedWith port r tag b).jobAt n = s.jobAt n := rfl
@[simp] theorem State.acceptedWith_handleOf (port : PortNo) (r : Request) (tag : Byte) (b : List Byte) (n : RecordNo) :
    (s.acceptedWith port r tag b).handleOf n = s.handleOf n := rfl
@[simp] theorem State.acceptedWith_job (port : PortNo) (r : Request) (tag : Byte) (b : List Byte) (h : Handle) :
    (s.acceptedWith port r tag b).job h = s.job h := rfl
@[simp] theorem State.acceptedWith_defined (port : PortNo) (r : Request) (tag : Byte) (b : List Byte) (t : TenantNo) :
    (s.acceptedWith port r tag b).defined t = s.defined t := rfl
@[simp] theorem State.acceptedWith_holdTime (port : PortNo) (r : Request) (tag : Byte) (b : List Byte) (t : TenantNo) :
    (s.acceptedWith port r tag b).holdTime t = s.holdTime t := rfl
@[simp] theorem State.acceptedWith_reorder (port : PortNo) (r : Request) (tag : Byte) (b : List Byte) (n : Nat) :
    (s.acceptedWith port r tag b).reorder n = s.reorder n := rfl
@[simp] theorem State.acceptedWith_callout (port : PortNo) (r : Request) (tag : Byte) (b : List Byte) (p : PrinterNo) (cls : CondClass) :
    (s.acceptedWith port r tag b).callout p cls = s.callout p cls := rfl
@[simp] theorem State.acceptedWith_sharingDefined (port : PortNo) (r : Request) (tag : Byte) (b : List Byte) (sh : Sharing) :
    (s.acceptedWith port r tag b).sharingDefined sh = s.sharingDefined sh := rfl

end Sys2Proof.Machine
end

