-- ==== Sys2Proof/Laws/Riser.lean ====
section
/-! SUPPORT. What hearing a frame can do, and how the commands of the riser channels reduce when a transaction is in
flight. -/

namespace Sys2Proof.Machine

variable {s : State} {p : PrinterNo} {c : ChannelNo} {k : PositionNo} {kind : Byte} {body : List Byte} {line : Bool}

theorem State.enrolled_eq_some {e : Enrolled} : s.enrolled p = some e ↔ s.printers.rd p = .enrolled e := by
  cases h : s.printers.rd p <;> simp [State.enrolled, Printer.enrolled?, h]

/-- A class cleared changes the condition set and the grace timers of its printer, and of no other. -/
theorem State.clearClass_printers (cls : CondClass) :
    (s.clearClass p cls).printers = s.printers
      ∨ ∃ e codes grace, s.printers.rd p = .enrolled e
        ∧ (s.clearClass p cls).printers = s.printers.wr p (.enrolled { e with codes := codes, grace := grace }) := by
  unfold State.clearClass
  split
  · exact .inl rfl
  · next e he =>
    split
    · exact .inl rfl
    · obtain ⟨_, _, _, h⟩ := (s.setClass p e cls 0 none).clearCallout_frame p cls
      rw [h]
      exact .inr ⟨e, _, _, State.enrolled_eq_some.mp he, rfl⟩

/-- A frame heard leaves everything of the printer's record but the condition set and the grace timers (R29). -/
theorem State.heard_printers (keep : Bool) :
    (s.heard p keep).printers = s.printers
      ∨ ∃ e codes grace, s.printers.rd p = .enrolled e
        ∧ (s.heard p keep).printers = s.printers.wr p (.enrolled { e with codes := codes, grace := grace }) := by
  unfold State.heard
  split
  · exact .inl rfl
  · dsimp only
    split
    · exact .inl rfl
    · unfold State.clearNoAnswer
      split
      · split
        · exact State.clearClass_printers (s := s.setPosition p _) .service
        · exact .inl rfl
      · exact .inl rfl

theorem State.heard_enrolled {e : Enrolled} (keep : Bool) (h : s.printers.rd p = .enrolled e) :
    ∃ codes grace, (s.heard p keep).printers.rd p = .enrolled { e with codes := codes, grace := grace } := by
  obtain h' | ⟨e', codes, grace, he, h'⟩ := s.heard_printers (p := p) keep
  · exact ⟨e.codes, e.grace, by rw [h', h]⟩
  · rw [h] at he
    cases he
    exact ⟨codes, grace, by rw [h', Table.rd_wr_self]⟩

theorem State.heard_of_not_enrolled (keep : Bool) (h : s.enrolled p = none) : s.heard p keep = s := by
  unfold State.heard
  rw [h]

@[simp] theorem State.heard_channels (keep : Bool) : (s.heard p keep).channels = s.channels := by
  obtain ⟨_, _, _, _, _, h⟩ := s.heard_frame p keep
  rw [h]
@[simp] theorem State.heard_serviceLines (keep : Bool) : (s.heard p keep).serviceLines = s.serviceLines := by
  obtain ⟨_, _, _, _, _, h⟩ := s.heard_frame p keep
  rw [h]
@[simp] theorem State.heard_reportAnswers (keep : Bool) : (s.heard p keep).reportAnswers = s.reportAnswers := by
  obtain ⟨_, _, _, _, _, h⟩ := s.heard_frame p keep
  rw [h]
@[simp] theorem State.heard_tenants (keep : Bool) : (s.heard p keep).tenants = s.tenants := by
  obtain ⟨_, _, _, _, _, h⟩ := s.heard_frame p keep
  rw [h]
@[simp] theorem State.heard_accounts (keep : Bool) : (s.heard p keep).accounts = s.accounts := by
  obtain ⟨_, _, _, _, _, h⟩ := s.heard_frame p keep
  rw [h]
@[simp] theorem State.heard_jobs (keep : Bool) : (s.heard p keep).jobs = s.jobs := by
  obtain ⟨_, _, _, _, _, h⟩ := s.heard_frame p keep
  rw [h]
@[simp] theorem State.heard_sessions (keep : Bool) : (s.heard p keep).sessions = s.sessions := by
  obtain ⟨_, _, _, _, _, h⟩ := s.heard_frame p keep
  rw [h]
@[simp] theorem State.heard_reorders (keep : Bool) : (s.heard p keep).reorders = s.reorders := by
  obtain ⟨_, _, _, _, _, h⟩ := s.heard_frame p keep
  rw [h]
@[simp] theorem State.heard_submission (keep : Bool) : (s.heard p keep).submission = s.submission := by
  obtain ⟨_, _, _, _, _, h⟩ := s.heard_frame p keep
  rw [h]
@[simp] theorem State.heard_job (keep : Bool) (h : Handle) : (s.heard p keep).job h = s.job h := by
  simp [State.job]

@[simp] theorem State.heard_activeJob (keep : Bool) (q : PrinterNo) :
    (s.heard p keep).activeJob q = s.activeJob q := by
  obtain h | ⟨e, codes, grace, he, h⟩ := s.heard_printers (p := p) keep
  · simp [State.activeJob, State.enrolled, h]
  · simp only [State.activeJob, State.enrolled, h, Table.rd_wr]
    split
    · next hq =>
      subst hq
      rw [he]
      rfl
    · rfl

/-- The report of a called position is examined once the frame is heard, and ends the transaction (R34). -/
theorem reportFrame_called {t : State} {a : ReportAnswer} (h : s.Called c k) (hb : body.length ≤ riserBodyMax)
    (hn : ¬ (kind = 0 ∧ body = []))
    (hx : examineReport kind (printerAt c k) body (s.heard (printerAt c k) (isServiceCondition kind body)) = (t, a)) :
    s.reportFrame c k kind body line = (t.endReport c k line (some a)).serveChannels := by
  obtain ⟨timer, h⟩ := h
  simp only [State.reportFrame, Nat.not_lt.mpr hb, if_false, h, if_true, hn, hx]

/-- The answer to the request in flight is taken once the frame is heard, and ends the transaction (R27). -/
theorem answerFrame_asked {sent : RiserRequest} (h : s.Asked c k sent) (hb : body.length ≤ riserBodyMax)
    (hk : sent.kind.code = kind.toNat) :
    s.answerFrame c k kind body =
      ((((s.heard (printerAt c k) false).setChannel c .idle).answered (printerAt c k) sent body)).serveChannels := by
  obtain ⟨timer, h⟩ := h
  simp only [State.answerFrame, Nat.not_lt.mpr hb, if_false, h, hk, and_self, if_true]

/-- An enrolled printer's report of a known kind and length, naming the active job where it names one, reaches its
owner (R34 step 4). -/
theorem examineReport_taken {e : Enrolled} {r : ReportRule} (he : s.printers.rd p = .enrolled e)
    (hr : reportRule kind = some r) (hl : body.length = r.length)
    (hj : r.namesJob = true → e.activeJob = some (handleAt body 0)) :
    examineReport kind p body s = takeReport r.kind p body s := by
  simp only [examineReport, State.enrolled_eq_some.mpr he, hr, hl, ne_eq, not_true, if_false]
  split
  · next h =>
    simp only [Bool.and_eq_true, decide_eq_true_eq] at h
    exact absurd (hj h.1) h.2
  · rfl

end Sys2Proof.Machine
end

