-- ==== Sys2Proof/Laws/Tower.lean ====
section
/-! SUPPORT. What the shared operations of the tower links can do: a request taken, its answer placed, an event
raised. -/

namespace Sys2Proof.Machine

variable {s t : State} {port : PortNo} {r : Request} {tag : Byte} {body bytes : List Byte}
  {work : State → State × Option Reply} {reason : Reason}

theorem State.beginRequest_eq_begun : s.beginRequest port r.code tag = s.begun port r tag := rfl

@[simp] theorem State.begun_ports_rd (n : PortNo) : (s.begun port r tag).ports.rd n =
    if port = n then { s.ports.rd port with outstanding := some ⟨r.code, tag⟩ } else s.ports.rd n := by
  simp [State.begun, Table.rd_wr]

/-- A request passed to its block changes nothing but its port's entry before the block acts. -/
theorem State.begun_eq : s.begun port r tag = { s with
    ports := s.ports.wr port { s.ports.rd port with outstanding := some ⟨r.code, tag⟩ } } := rfl

/-- A request on a ready port is the block's work on the begun state, with its reply (R174 step 5). -/
theorem takeRequest_ready (h : s.Ready port r body) :
    s.takeRequest r port tag body work =
      (work (s.begun port r tag)).1.reply port r.code tag (work (s.begun port r tag)).2 := by
  obtain ⟨h1, h2, h3⟩ := h
  simp [State.takeRequest, h1, h2, Nat.not_lt.mpr h3, State.beginRequest_eq_begun]

/-- A request that its block accepts. -/
theorem takeRequest_accept (h : s.Ready port r body) (hw : work (s.begun port r tag) = accept bytes t) :
    s.takeRequest r port tag body work = t.acceptedWith port r tag bytes := by
  rw [takeRequest_ready h, hw]
  rfl

/-- A request that its block refuses. -/
theorem takeRequest_refuse (h : s.Ready port r body)
    (hw : work (s.begun port r tag) = refuse reason (s.begun port r tag)) :
    s.takeRequest r port tag body work = (s.begun port r tag).replied port r tag (.refused reason) [] := by
  rw [takeRequest_ready h, hw]
  rfl

/-- Everything that taking a request frame can do (R173, R174). -/
theorem takeRequest_cases :
    (towerBodyMax < body.length ∧ s.takeRequest r port tag body work = s)
      ∨ ((s.ports.rd port).outstanding ≠ none
          ∧ s.takeRequest r port tag body work = s.overlapped port r.code tag)
      ∨ ((s.ports.rd port).outstanding = none ∧ permits r (s.ports.rd port).role = false
          ∧ s.takeRequest r port tag body work
            = (s.begun port r tag).replied port r tag (.refused .notPermitted) [])
      ∨ (s.Ready port r body ∧ s.takeRequest r port tag body work =
          (work (s.begun port r tag)).1.reply port r.code tag (work (s.begun port r tag)).2) := by
  by_cases h3 : towerBodyMax < body.length
  · exact .inl ⟨h3, by simp [State.takeRequest, h3]⟩
  · by_cases h1 : (s.ports.rd port).outstanding = none
    · by_cases h2 : permits r (s.ports.rd port).role = true
      · have h : s.Ready port r body := ⟨h1, h2, Nat.not_lt.mp h3⟩
        exact .inr (.inr (.inr ⟨h, takeRequest_ready h⟩))
      · refine .inr (.inr (.inl ⟨h1, by simpa using h2, ?_⟩))
        simp [State.takeRequest, h3, h1, h2, State.reply, State.replied, State.placeAnswer,
          State.beginRequest_eq_begun]
    · exact .inr (.inl ⟨h1, by
        simp [State.takeRequest, h3, Option.isSome_iff_ne_none, h1]⟩)

/-- What an answer placed leaves: nothing but the port's entry changes. -/
theorem State.reply_eq (o : Option Reply) (code : Byte) :
    ∃ ps, s.reply port code tag o = { s with ports := ps } := by
  cases o
  · exact ⟨s.ports, rfl⟩
  · exact ⟨_, rfl⟩

/-- What an overlapping request leaves: nothing but the port's overlap slot changes (R176). -/
theorem State.overlapped_eq (code : Byte) : ∃ ps, s.overlapped port code tag = { s with ports := ps } := by
  unfold State.overlapped
  split
  · exact ⟨s.ports, rfl⟩
  · exact ⟨_, rfl⟩

end Sys2Proof.Machine
end

