-- ==== Sys2Proof/Tests/Slice0.lean ====
section
/-! SUPPORT. Tests: ill-formed commands that `Instr.wellFormed` refuses; the worked examples and tables of spec/; and,
for each statement with hypotheses, a state and operands that meet those of each of its clauses. -/

namespace Sys2Proof.Tests

open Sys2Proof.Machine

/-! ### Well-formedness: one ill-formed command for each check -/

theorem test_tower_body_of_121_is_ill_formed :
    (Instr.queryPort 0 0 (List.replicate 121 0)).wellFormed = false
      ∧ (Instr.queryPort 0 0 (List.replicate 120 0)).wellFormed = true := by decide +kernel

theorem test_riser_body_of_49_is_ill_formed :
    (Instr.present 0 0 (List.replicate 49 0) false).wellFormed = false
      ∧ (Instr.present 0 0 (List.replicate 48 0) false).wellFormed = true := by decide +kernel

theorem test_unknown_request_of_a_known_code_is_ill_formed :
    (Instr.unknownRequest 0 0x10 0 []).wellFormed = false ∧ (Instr.unknownRequest 0 0x16 0 []).wellFormed = true := by
  decide +kernel

theorem test_unknown_kind_of_a_known_kind_is_ill_formed :
    (Instr.unknownKind 0 0 0x18 [] false).wellFormed = false ∧ (Instr.unknownKind 0 0 0x19 [] false).wellFormed = true
      := by decide +kernel

theorem test_unknown_kind_of_an_empty_nothing_is_ill_formed :
    (Instr.unknownKind 0 0 0 [] false).wellFormed = false ∧ (Instr.unknownKind 0 0 0 [0] false).wellFormed = true := by
  decide +kernel

theorem test_acknowledgement_of_a_grant_is_ill_formed :
    (Instr.acknowledgementAnswer 0 0 2 []).wellFormed = false
      ∧ (Instr.acknowledgementAnswer 0 0 4 []).wellFormed = true := by decide +kernel

/-! ### Frames -/

/-- The check of the nine digits, as the published test vector of this generator and start value gives it (PRESUMED:
the vector is not the spec's). -/
theorem test_check_of_the_nine_digits :
    crc [0x31, 0x32, 0x33, 0x34, 0x35, 0x36, 0x37, 0x38, 0x39] = 0x29B1#16 := by decide +kernel

/-- Table 12.1's layout, byte by byte: QUERY PORT of port 3 under tag 5Ah. -/
theorem test_tower_request_frame_layout :
    (TowerFrame.bytes ⟨1, 0x72, 0x5A, 0, 0, [3]⟩).take 8 = [0xA5, 1, 0x72, 0x5A, 0, 0, 1, 3]
      ∧ Instr.ofTowerBytes 0 (TowerFrame.bytes ⟨1, 0x72, 0x5A, 0, 0, [3]⟩) = .queryPort 0 0x5A [3] := by
  decide +kernel

/-- Table 12.7's layout: a PRESENT report (kind 10h, class 3) of digest 0000BEEFh from position 5, with noise before it
and the bits of the position byte above its low three set. -/
theorem test_riser_report_frame_layout :
    (RiserFrame.bytes ⟨5, 3, 0x10, [0, 0, 0xBE, 0xEF]⟩).take 9 = [0xA5, 5, 3, 0x10, 4, 0, 0, 0xBE, 0xEF]
      ∧ Instr.ofRiserBytes 3 false (0x77 :: 0xA5 :: riserCovered 0xFD 3 0x10 [0, 0, 0xBE, 0xEF]
          ++ checkBytes (riserCovered 0xFD 3 0x10 [0, 0, 0xBE, 0xEF])) = .present 3 5 [0, 0, 0xBE, 0xEF] false := by
  decide +kernel

/-- A handle is the generation × 1,024 + the record number (R61): generation 8, record 332. -/
theorem test_handle_layout : handleAt [0x21, 0x4C] 0 = ⟨332, 8⟩ ∧ handleBytes ⟨332, 8⟩ = [0x21, 0x4C] := by
  decide +kernel

/-! ### The worked examples of spec/ -/

/-- The descriptor of Table 1.5. -/
def descriptor15 : List Byte :=
  [1, 0b1101, 4, 60, 0x20, 0, 75, 0x31, 0, 60, 0x31, 0, 60, 0x12, 4, 176, 3, 0, 0,
   0, 0x8D, 0, 0x12, 0, 0xF4, 0x11, 0x21, 0x4C, 0, 0x07, 0, 0]

/-- Table 1.5, field by field. -/
theorem test_descriptor_of_table_1_5 :
    descriptorValid descriptor15 = true
      ∧ descriptorOf descriptor15 = ⟨true, false, true, true, false, 50, 500, 90, 60, 1024, ⟨64, 320, 60⟩⟩
      ∧ (slotsOf descriptor15).map (fun x => (x.kind, x.overhead, x.capacity))
        = [(.blackToner, 2, 375000), (.colourToner, 3, 300000), (.colourToner, 3, 300000), (.imagingUnit, 1, 5000000)]
      := by decide +kernel

/-- Its last paragraph: revision 2, a yield of 0 in slot 1, and a nonzero trailing byte each make it invalid. -/
theorem test_descriptors_that_are_invalid :
    descriptorValid (descriptor15.set 0 2) = false ∧ descriptorValid (descriptor15.set 9 0) = false
      ∧ descriptorValid (descriptor15.set 31 1) = false := by decide +kernel

/-- The weights of section 6.8. -/
def tariff68 : Tariff := ⟨1, 6, 3, 15⟩

/-- The tenant, account and job of section 6.8, with tenant 1 in tenant 11's place. -/
def key : AccountKey := ⟨0, 415⟩
def ten : Tenant := ⟨none, 30000, 100, false, some 100, tariff68, 24, 10, 10, 1, 1⟩
def acc : Account := ⟨key, some 48879, some 2000, 1900, 100, false, false, 0, none⟩
def job (state : JobState) : Job := ⟨key, 7, 0, 40, 10, false, none, state, 1440, 0, 0, 0, 0⟩
def h0 : Handle := ⟨0, 0⟩

/-- R103: estimated at 100 with COLOUR and 50 without, and at 270 and 150 when LARGE. -/
theorem test_estimates_of_R103 :
    estimate tariff68 true (job .held) = 100 ∧ estimate tariff68 false (job .held) = 50
      ∧ estimate tariff68 true { job .held with large := true } = 270
      ∧ estimate tariff68 false { job .held with large := true } = 150 := by decide +kernel

/-- Section 6.8: 2,000 does not exceed the allowance of 2,000; one unit more would. -/
theorem test_check_of_section_6_8 :
    grantRefusal { acc with reserved := 0 } { ten with poolReserved := 0 } 100 = none
      ∧ grantRefusal { acc with reserved := 0 } { ten with poolReserved := 0 } 101 = some .quota := by decide +kernel

/-- A printer with one toner slot, at channel 3, position 5. -/
def toner : Slot := ⟨.blackToner, 2, 375000, 375000, 0, 0, false, 999, 100, 0, true⟩
def desc : Descriptor := ⟨true, false, true, true, false, 10, 500, 90, 60, 1024, ⟨64, 320, 60⟩⟩
def prn : Enrolled := ⟨.inService, .dedicated 0, desc, ⟨0, 0, 0⟩, ⟨none, none, none⟩, none, [toner]⟩

/-- An office: that printer, that tenant with a port and its account, a supplies port, and no jobs. -/
def office : State := { State.reset with
  printers := State.reset.printers.wr 29 (.enrolled prn)
  tenants := State.reset.tenants.wr 0 (some { ten with liveJobs := 0, poolReserved := 0 })
  accounts := [{ acc with reserved := 0 }]
  ports := (State.reset.ports.wr 1 (Port.fresh (.tenant 0))).wr 2 (Port.fresh .supplies) }

/-- The office with one job, in a state, and whether it is the printer's active job. -/
def withJob (state : JobState) (active : Option Handle) : State := { office with
  jobs := office.jobs.wr 0 ⟨0, some (job state)⟩
  freeList := (List.finRange 1024).tail
  submission := [0]
  printers := office.printers.wr 29 (.enrolled { prn with activeJob := active }) }

/-- The office with a report transaction in flight to its printer. -/
def called (s : State) : State := { s with channels := s.channels.wr 3 (.awaitingReport 5 500) }

/-- The office with a request transaction in flight to its printer. -/
def asked (s : State) (sent : RiserRequest) : State :=
  { s with channels := s.channels.wr 3 (.awaitingAnswer 5 sent 500) }

theorem called_called (s : State) : (called s).Called 3 5 := ⟨500, by simp [called]⟩

theorem asked_asked (s : State) (sent : RiserRequest) : (asked s sent).Asked 3 5 sent := ⟨500, by simp [asked]⟩

/-- The state a command leaves, for reading one or two fields of it. -/
def after (s : State) (c : Instr) : State :=
  match exec c s with
  | .next t => t
  | _ => s

/-- The printing job of section 6.8 before its last report: 96 charged, 4 reserved. -/
def printing68 : State := called { withJob (.printing 29 false) (some h0) with
  jobs := office.jobs.wr 0 ⟨0, some { job (.printing 29 false) with
    doneMono := 36, doneColour := 10, reserved := 4, charged := 96 }⟩
  accounts := [{ acc with charged := 1996, reserved := 4 }]
  tenants := office.tenants.wr 0 (some { ten with poolCharged := 30096, poolReserved := 4 }) }

/-- Section 6.8's fifth report, 8 mono sides: the job's, the account's and the pool's amounts. -/
theorem test_fifth_report_of_section_6_8 :
    ((after printing68 (.sides 3 5 [0, 0, 1, 8, 0, 0, 0, 0, 0, 0, 0, 0, 0, 0] false)).job h0).map
        (fun j => (j.doneMono, j.reserved, j.charged)) = some (44, 0, 104)
      ∧ (after printing68 (.sides 3 5 [0, 0, 1, 8, 0, 0, 0, 0, 0, 0, 0, 0, 0, 0] false)).accounts.map
        (fun a => (a.charged, a.reserved, a.exhausted)) = [(2004, 0, true)]
      ∧ ((after printing68 (.sides 3 5 [0, 0, 1, 8, 0, 0, 0, 0, 0, 0, 0, 0, 0, 0] false)).tenants.rd 0).map
        (fun t => (t.poolCharged, t.poolReserved, t.poolExhausted)) = some (30104, 0, false) := by decide +kernel

/-- The slot of section 7.7 at its start. -/
def slot77 : Slot := { toner with remaining := 75000, today := 8000, rate := 9200, seeded := true }

/-- Section 7.7: consumption 744 and 16,032, the three rates, and the days to empty. -/
theorem test_cartridge_of_section_7_7 :
    slot77.consumption false 12 720 = 744 ∧ slot77.consumption true 8 9500 = 16032
      ∧ (let x := (slot77.consume 744).closeDay; (x.remaining, x.level, x.rate, x.daysToEmpty)) = (74256, 19, 9143, 8)
      ∧ (let x := ((slot77.consume 744).closeDay.consume 9500).closeDay; (x.level, x.rate, x.daysToEmpty))
        = (17, 9187, 7)
      ∧ (let x := ({ slot77 with rate := 9187, today := 27332 }.replaced 5).closeDay; (x.rate, x.daysToEmpty))
        = (11455, 32) := by decide +kernel

/-- Section 11.2: the second mark after SET CLOCK to 86,399 on day 311 makes a minute mark and a day close due. -/
theorem test_clock_of_section_11_2 :
    (let t := after { office with clock := ⟨311, 86399⟩ } .secondMark; (t.clock, t.minuteMarksDue, t.dayClosesDue))
      = (⟨312, 0⟩, 1, 1) := by decide +kernel

/-- Section 11.2: that day close rates the slot of 5,000 with 6,200 doses to floor((35,000 + 6,200) / 8) = 5,150. -/
theorem test_day_close_of_section_11_2 :
    (let s := { office with
        clock := ⟨311, 86399⟩
        printers := office.printers.wr 29 (.enrolled { prn with
          slots := [{ toner with today := 6200, rate := 5000, seeded := true }] }) };
      let t := after s .dayClose;
      (t.clock, (t.slot 29 0).map fun x => (x.today, x.rate))) = (⟨312, 0⟩, some (0, 5150)) := by decide +kernel

/-- R83, R84, R87, R25: a badge presented at a clear printer opens a SHOWING session with the release window, and the
SHOW LIST is sent at once. -/
theorem test_present_opens_a_session :
    (let t := after (called office) (.present 3 5 [0, 0, 190, 239] false);
      ((t.sessions.rd 29).map (fun x => (x.releasing, x.account, x.window)), t.reportAnswers.rd 3,
        (t.positions.rd 29).showList)) = (some (false, key, some 90), some (5, .taken), false) := by decide +kernel

/-- R152, R153, R155, Table 9.2: a USER code at a RESUMABLE printer suspends its PRINTING job at the suspend limit, and
the grace timer starts at the USER limit. -/
theorem test_condition_suspends_a_printing_job :
    (let t := after (called (withJob (.printing 29 false) (some h0))) (.condition 3 5 [1, 4] false);
      ((t.job h0).map (·.state), (t.enrolled 29).map (fun e => (e.codes, e.grace))))
      = (some (.suspended 29 false 1024), some (⟨4, 0, 0⟩, ⟨some 64, none, none⟩)) := by decide +kernel

/-- R25, Table 2.1: of two marks at one position, REVOKE is sent before DESCRIBE and PROBE. -/
theorem test_revoke_is_sent_first :
    (let s := { office with
        positions := office.positions.wr 29 { Position.clear with revoke := true, probe := true } };
      let t := after s (.serviceRequestActive 7 7);
      (t.channels.rd 3, (t.positions.rd 29).revoke, (t.positions.rd 29).probe))
      = (.awaitingAnswer 5 (.revoke none) 500, false, true) := by decide +kernel

/-! ### Premises of the statements: machine, invariants, tower links -/

/-- The job pool of `withJob`. -/
theorem withJob_jobAt {state : JobState} {active : Option Handle} {n : RecordNo} {j : Job}
    (h : (withJob state active).jobAt n = some j) : n = 0 ∧ j = job state := by
  by_cases hn : (0 : RecordNo) = n
  · subst hn
    simp only [State.jobAt, withJob, Table.rd_wr_self, Option.some.injEq] at h
    exact ⟨rfl, h.symm⟩
  · simp [State.jobAt, withJob, office, State.reset, Table.rd_wr, hn] at h

theorem office_jobAt (n : RecordNo) : office.jobAt n = none := by simp [State.jobAt, office, State.reset]

theorem office_sessions (p : PrinterNo) : office.sessions.rd p = none := by simp [office, State.reset]

theorem quiet_of {s : State} (hp : s.positions = Table.fill 64 Position.clear)
    (hl : s.serviceLines = Table.fill 64 false) : s.Quiet := by
  intro c k _
  refine ⟨fun kind => ?_, ?_⟩
  · cases kind <;> simp [hp, Position.clear, Position.marked]
  · simp [hl]

theorem jobAt_of {s : State} (h : s.jobs = Table.fill 1024 ⟨0, none⟩) (n : RecordNo) : s.jobAt n = none := by
  simp [State.jobAt, h]

theorem office_quiet : office.Quiet := quiet_of rfl rfl

theorem test_premises_StepRunsFrontCommand :
    { office with pending := [.secondMark, .powerOn] }.pending = .secondMark :: [.powerOn] ∧ office.pending = [] :=
  ⟨rfl, rfl⟩

/-- The office with a command waiting steps, and meets the invariants that do not concern jobs. -/
def waiting : State := { office with pending := [.minuteMark] }

theorem waiting_steps : ∃ t, step waiting = .next t := ⟨_, rfl⟩

theorem test_premises_CalloutLinesFollowOpenCallouts : waiting.LinesFollow ∧ ∃ t, step waiting = .next t := by
  refine ⟨fun cls => ?_, waiting_steps⟩
  cases cls <;> simp [waiting, office, State.reset, PerClass.get]

theorem test_premises_ArbitersLeaveNothingToChoose : waiting.Quiet ∧ ∃ t, step waiting = .next t :=
  ⟨quiet_of rfl rfl, waiting_steps⟩

theorem test_premises_PortRolesAndClockStayInRange :
    waiting.PortsBound ∧ waiting.ClockInRange ∧ ∃ t, step waiting = .next t := by
  refine ⟨?_, ?_, waiting_steps⟩
  · unfold State.PortsBound
    refine ⟨by decide +kernel, by decide +kernel, by decide +kernel⟩
  · unfold State.ClockInRange
    decide +kernel

theorem slotsDerived_of {s : State} (hs : s.printers = (Table.fill 64 .absent).wr 29 (.enrolled prn)) :
    s.SlotsDerived := by
  intro p e h
  by_cases hp : (29 : PrinterNo) = p
  · subst hp
    simp only [State.enrolled, hs, Table.rd_wr_self, Printer.enrolled?, Option.some.injEq] at h
    subst h
    unfold Slot.Derived
    decide +kernel
  · simp [State.enrolled, hs, Table.rd_wr, hp, Printer.enrolled?] at h

theorem waiting_slotsDerived : waiting.SlotsDerived := slotsDerived_of rfl

theorem test_premises_SlotsStayDerived : waiting.SlotsDerived ∧ ∃ t, step waiting = .next t :=
  ⟨waiting_slotsDerived, waiting_steps⟩

theorem test_premises_ReordersStayKept : waiting.SlotsDerived ∧ waiting.ReordersKept ∧ ∃ t, step waiting = .next t := by
  refine ⟨waiting_slotsDerived, ?_, waiting_steps⟩
  unfold State.ReordersKept
  decide +kernel

theorem test_premises_SessionsStandOnlyAtServingPrinters : waiting.SessionsServed ∧ ∃ t, step waiting = .next t :=
  ⟨fun p _ h => by have := office_sessions p; simp only [waiting] at h; simp [this] at h, waiting_steps⟩

/-- The office, its one account without jobs. -/
def idle : State := { waiting with accounts := [{ acc with reserved := 0, heldJobs := 0 }] }

theorem idle_jobAt (n : RecordNo) : idle.jobAt n = none := jobAt_of rfl n

theorem idle_freeList : idle.freeList = List.finRange 1024 := by simp only [idle, waiting, office, State.reset]

theorem idle_sessions (p : PrinterNo) : idle.sessions.rd p = none := by
  rw [show idle.sessions = Table.fill 64 none from rfl, Table.rd_fill]

theorem idle_enrolled {p : PrinterNo} {e : Enrolled} (h : idle.enrolled p = some e) : e = prn := by
  by_cases hp : (29 : PrinterNo) = p
  · subst hp
    simp only [State.enrolled, idle, waiting, office, Table.rd_wr_self, Printer.enrolled?, Option.some.injEq] at h
    exact h.symm
  · simp [State.enrolled, idle, waiting, office, State.reset, Table.rd_wr, hp, Printer.enrolled?] at h

theorem idle_activeJob (p : PrinterNo) : idle.activeJob p = none := by
  unfold State.activeJob
  cases h : idle.enrolled p with
  | none => rfl
  | some e => rw [idle_enrolled h]; rfl

theorem test_premises_BooksStayKept : idle.BooksKept ∧ ∃ t, step idle = .next t := by
  refine ⟨⟨⟨?_, ?_, ?_, ?_, ?_, ?_⟩, ⟨?_, ?_, ?_⟩, ⟨?_, ?_, ?_, ?_⟩, ⟨?_, ?_⟩, ?_, ?_, ?_, ?_⟩, ⟨_, rfl⟩⟩
  · rw [idle_freeList]
    exact List.nodup_finRange 1024
  · exact List.nodup_nil
  · intro t
    simp [show idle.completions = Table.fill 16 [] from rfl]
  · intro n
    simp [idle_jobAt, idle_freeList]
  · intro n
    simp [idle_jobAt, show idle.submission = [] from rfl]
  · intro n t
    simp [idle_jobAt, show idle.completions = Table.fill 16 [] from rfl]
  · intro n j p cam h
    simp [idle_jobAt] at h
  · intro p h hp
    simp [idle_activeJob] at hp
  · intro p e h _
    rw [idle_enrolled h]
    rfl
  · decide +kernel
  · decide +kernel
  · intro n j h
    simp [idle_jobAt] at h
  · intro n j h
    simp [idle_jobAt] at h
  · intro t x h
    by_cases ht : (0 : TenantNo) = t
    · subst ht
      simp only [idle, waiting, office, Table.rd_wr_self, Option.some.injEq] at h
      subst h
      decide +kernel
    · simp [idle, waiting, office, State.reset, Table.rd_wr, ht] at h
  · decide +kernel
  · intro p x h
    simp [idle_sessions] at h
  · decide +kernel
  · intro p x h
    simp [idle_sessions] at h
  · intro p q x y h hx
    simp [idle_sessions] at hx

theorem test_premises_ReservationsStayAgreed :
    idle.BooksKept ∧ idle.ReservationsAgree ∧ ∃ t, step idle = .next t := by
  refine ⟨test_premises_BooksStayKept.1, ⟨?_, ?_, ?_⟩, ⟨_, rfl⟩⟩
  · intro n j h
    simp [idle_jobAt] at h
  · decide +kernel
  · intro t x h
    by_cases ht : (0 : TenantNo) = t
    · subst ht
      simp only [idle, waiting, office, Table.rd_wr_self, Option.some.injEq] at h
      subst h
      decide +kernel
    · simp [idle, waiting, office, State.reset, Table.rd_wr, ht] at h

theorem test_premises_RefusedRequestChangesNoRecord :
    office.Quiet ∧ (office.ports.rd 1).outstanding = none ∧ (office.ports.rd 1).answer = none
      ∧ ∃ t b, exec (Request.command .renewPool 1 9 [1]) office = .next t
        ∧ (t.ports.rd 1).answer = some ⟨Request.code .renewPool, 9, .refused .notPermitted, b⟩ :=
  ⟨office_quiet, by decide +kernel, by decide +kernel, _, [], rfl, by decide +kernel⟩

theorem test_premises_RoleIsCheckedBeforeTheBody :
    office.Quiet ∧ (office.ports.rd 7).outstanding = none ∧ (List.replicate 120 (0 : Byte)).length ≤ 120
      ∧ permits .fleetReset (office.ports.rd 7).role = false
      ∧ ¬ selfReset 7 .fleetReset (List.replicate 120 0) := by
  refine ⟨office_quiet, ?_⟩
  unfold selfReset
  decide +kernel

theorem ofCode_FE (r : Request) : Request.ofCode 0xFE ≠ some r := by
  have : Request.ofCode 0xFE = none := by decide
  rw [this]
  exact nofun

/-- The office with a request outstanding on port 1, the overlap slot empty or full. -/
def busy (overlap : Option Answer) : State := { office with
  ports := office.ports.wr 1 { Port.fresh (.tenant 0) with outstanding := some ⟨0x24, 1⟩, overlap := overlap } }

theorem busy_quiet (o : Option Answer) : (busy o).Quiet := quiet_of rfl rfl

theorem test_premises_UntakenFramesChangeNoRecord :
    (∀ o, (busy o).Quiet ∧ ((busy o).ports.rd 1).outstanding ≠ none ∧ ((busy o).ports.rd 1).overlap = o)
      ∧ (List.replicate 120 (0 : Byte)).length ≤ 120
      ∧ (∀ r, Request.ofCode 0xFE = some r → ¬ selfReset 1 r [])
      ∧ (Request.ofCode 0xFE = none ∧ (office.ports.rd 7).outstanding = none)
      ∧ (∀ f, TowerFrame.receive [0xA5] = some f → f.kind ≠ 1)
      ∧ (∀ f, TowerFrame.receive (TowerFrame.bytes ⟨2, 0x10, 0, 0, 0, []⟩) = some f → f.kind ≠ 1) := by
  refine ⟨fun o => ⟨busy_quiet o, ?_, ?_⟩, by decide, fun r h => absurd h (ofCode_FE r), ⟨rfl, by decide +kernel⟩, ?_, ?_⟩
  · simp [busy]
  · simp [busy]
  · intro f h
    have : TowerFrame.receive [0xA5] = none := by decide +kernel
    rw [this] at h
    exact nomatch h
  · intro f h
    have : TowerFrame.receive (TowerFrame.bytes ⟨2, 0x10, 0, 0, 0, []⟩) = some ⟨2, 0x10, 0, 0, 0, []⟩ := by
      decide +kernel
    rw [this, Option.some.injEq] at h
    subst h
    decide

theorem test_premises_TowerFramesAreReceivedAsSent :
    (List.replicate 120 (0 : Byte)).length ≤ 120 ∧ (∀ b ∈ [(0 : Byte), 0xA4], b ≠ 0xA5#8)
      ∧ 120 < (List.replicate 121 (0 : Byte)).length ∧ (List.replicate 255 (0 : Byte)).length < 256 := by decide +kernel

theorem test_premises_RiserFramesAreHeardAsSent :
    (List.replicate 48 (0 : Byte)).length ≤ 48 ∧ (∀ b ∈ [(0 : Byte), 0xA6], b ≠ 0xA5#8)
      ∧ 48 < (List.replicate 49 (0 : Byte)).length ∧ (List.replicate 255 (0 : Byte)).length < 256
      ∧ [(0 : Byte), 0] ≠ checkBytes (riserCovered 0xFF 3 0x10 []) := by decide +kernel

/-- A port whose transmitter, slots and sets are given. -/
def portOf (answer overlap : Option Answer) (attention : Bool) (raw : BitVec 12) (t : Transmitter) : Port :=
  ⟨.supplies, some ⟨0x51, 1⟩, answer, overlap, attention, raw, 0xFFF, t⟩

theorem test_premises_TransmitterSendsInOrder (p : Port) :
    (office.setPort 7 p).ports.rd 7 = p
      ∧ (∀ a, (portOf (some a) none false 0 .idle).transmitter = .idle
        ∧ (portOf (some a) none false 0 .idle).answer = some a
        ∧ (portOf none (some a) false 0 .idle).answer = none ∧ (portOf none (some a) false 0 .idle).overlap = some a
        ∧ (portOf (some a) none false 0 (.answer a)).transmitter = .answer a
        ∧ (portOf none (some a) false 0 (.overlap a)).transmitter = .overlap a)
      ∧ (let q := portOf none none true 0x800 .idle; q.attention = true ∧ q.raw &&& q.mask ≠ 0)
      ∧ (let q := portOf none none true 0 .idle; q.attention = true ∧ q.raw &&& q.mask = 0)
      ∧ (portOf none none false 0 (.attention 1)).transmitter = .attention 1 :=
  ⟨by simp, fun _ => ⟨rfl, rfl, rfl, rfl, rfl, rfl⟩, by decide, by decide, rfl⟩

theorem test_premises_PortsAreResetAndBound :
    (office.Ready 0 .resetPort [7] ∧ u8 [7] 0 = (7 : PortNo).val ∧ (7 : PortNo) ≠ 0)
      ∧ (∃ s : State, s.printers.rd 63 = .enrolling (.shared 0) (some (0, 1))
        ∧ ∀ sh who, s.printers.rd 0 ≠ .enrolling sh who)
      ∧ (office.Ready 0 .bindPort [7, 3] ∧ office.Ready 0 .bindPort [2, 2]
        ∧ ∀ m : PortNo, m ≠ 2 → (office.ports.rd m).role ≠ .supplies)
      ∧ (office.Ready 0 .bindPort [7, 1, 1] ∧ u8 [7, 1, 1] 2 = (0 : TenantNo).val + 1
        ∧ (office.tenants.rd 0).isSome = true) := by
  refine ⟨by unfold State.Ready; decide +kernel, ?_, by unfold State.Ready; decide +kernel,
    by unfold State.Ready; decide +kernel⟩
  refine ⟨{ State.reset with printers := State.reset.printers.wr 63 (.enrolling (.shared 0) (some (0, 1))) }, ?_, ?_⟩
  · simp
  · intro sh who
    simp [State.reset, Table.rd_wr]

theorem test_premises_AttentionIsClearedMaskedAndRaised :
    (office.Ready 2 .clearAttention [15, 255] ∧ u16 [15, 255] 0 < 4096) ∧ office.Ready 2 .setMask [15, 255]
      ∧ (office.Ready 2 .clearAttention [16, 0] ∧ 4096 ≤ u16 [16, 0] 0) ∧ office.Ready 2 .setMask [16, 0] := by
  unfold State.Ready
  decide +kernel

/-! ### Queries -/

theorem test_premises_PortQueriesReadThePort :
    (office.Ready 0 .queryPort [0] ∧ u8 [0] 0 = (0 : PortNo).val) ∧ office.Ready 0 .queryPort [7]
      ∧ office.Ready 7 .readAttention [] := by
  unfold State.Ready
  decide +kernel

theorem test_premises_PrinterAndTenantAreReadByRole :
    (office.Ready 0 .queryPrinter [29] ∧ u8 [29] 0 = (29 : PrinterNo).val ∧ (office.ports.rd 0).role = .facilities
        ∧ office.printers.rd 29 = .enrolled prn)
      ∧ (office.Ready 0 .queryPrinter [63] ∧ office.printers.rd 63 = .absent)
      ∧ (∃ s : State, s.Ready 0 .queryPrinter [63] ∧ s.printers.rd 63 = .enrolling (.dedicated 0) none)
      ∧ (office.Ready 1 .queryPrinter [29] ∧ (office.ports.rd 1).role = .tenant 0 ∧ prn.sharing.gives 0 = true)
      ∧ (office.Ready 1 .queryPrinter [63] ∧ ∀ e, office.printers.rd 63 = .enrolled e → e.sharing.gives 0 = false)
      ∧ (office.Ready 0 .queryTenant [1] ∧ office.Ready 1 .queryTenant [1] ∧ (office.tenants.rd 0).isSome = true)
      ∧ (office.Ready 0 .queryTenant [16] ∧ office.tenants.rd 15 = none)
      ∧ (office.Ready 1 .queryTenant [16] ∧ (0 : TenantNo) ≠ 15) := by
  refine ⟨by unfold State.Ready; decide +kernel, by unfold State.Ready; decide +kernel,
    ⟨{ office with printers := office.printers.wr 63 (.enrolling (.dedicated 0) none) },
      by unfold State.Ready; decide +kernel, by simp⟩, by unfold State.Ready; decide +kernel,
    ⟨by unfold State.Ready; decide +kernel, ?_⟩, by unfold State.Ready; decide +kernel,
    by unfold State.Ready; decide +kernel, by unfold State.Ready; decide +kernel⟩
  intro e h
  simp [office, State.reset, Table.rd_wr] at h

/-- The office's account. -/
def acc0 : Account := { acc with reserved := 0 }

theorem test_premises_AccountAndJobAreReadByTheirTenant :
    (office.Ready 1 .queryAccount [1, 159, 0] ∧ (office.ports.rd 1).role = .tenant 0 ∧ u16 [1, 159, 0] 0 ≠ 0
        ∧ (office.accounts.map (·.key)).Nodup ∧ acc0 ∈ office.accounts ∧ acc0.key = ⟨0, u16 [1, 159, 0] 0⟩)
      ∧ (office.Ready 1 .queryAccount [0, 1, 1] ∧ u16 [0, 1, 1] 0 ≤ acc0.key.number)
      ∧ (office.Ready 1 .queryAccount [255, 255, 0] ∧ ∀ a ∈ office.accounts, a.key ≠ ⟨0, u16 [255, 255, 0] 0⟩)
      ∧ (office.Ready 1 .queryAccount [1, 160, 1] ∧ ∀ a ∈ office.accounts, a.key.number < u16 [1, 160, 1] 0)
      ∧ (let s := withJob .held none
        (s.Ready 0 .queryJob [0, 0, 0] ∧ s.Ready 1 .queryJob [0, 0, 0] ∧ handleAt [0, 0, 0] 1 = h0
            ∧ s.job h0 = some (job .held) ∧ (s.ports.rd 1).role = .tenant (job .held).owner.tenant)
          ∧ (s.Ready 0 .queryJob [1, 0, 7, 1] ∧ s.Ready 1 .queryJob [1, 0, 7] ∧ u16 [1, 0, 7] 1 = (job .held).tag
            ∧ ∀ m i, s.jobAt m = some i → i.owner.tenant = (job .held).owner.tenant → i.tag = (job .held).tag
              → m = h0.record))
      ∧ ∃ s : State, s.Ready 3 .queryJob [0, 0, 0] ∧ (s.ports.rd 3).role = .tenant 15
        ∧ s.job h0 = some (job .held) ∧ 15 ≠ (job .held).owner.tenant := by
  refine ⟨by unfold State.Ready; decide +kernel, by unfold State.Ready; decide +kernel,
    by unfold State.Ready; decide +kernel, by unfold State.Ready; decide +kernel,
    ⟨by unfold State.Ready; decide +kernel, by unfold State.Ready; decide +kernel,
      by unfold State.Ready; decide +kernel, by decide +kernel, fun m i h _ _ => (withJob_jobAt h).1⟩,
    { withJob .held none with ports := office.ports.wr 3 (Port.fresh (.tenant 15)) },
    by unfold State.Ready; decide +kernel, by decide +kernel, by decide +kernel, by decide +kernel⟩

/-- A reorder of the office's slot. -/
def order (number : Nat) (state : ReorderState) (urgency : Urgency) : Reorder :=
  ⟨number, 29, 0, .blackToner, urgency, state, ⟨0, 0⟩, 9, none, none⟩

theorem test_premises_SlotsReordersAndCalloutsAreRead :
    (office.Ready 0 .querySlot [29, 0] ∧ u8 [29, 0] 1 = 0 ∧ office.printers.rd 29 = .enrolled prn
        ∧ prn.slots[0]? = some toner)
      ∧ (let s := { office with reorders := [order 1 .raised .normal, order 65535 .cancelled .normal] }
        (s.Ready 2 .queryOrder [0, 1, 0] ∧ order 1 .raised .normal ∈ s.reorders ∧ (s.reorders.map (·.number)).Nodup
            ∧ u16 [0, 1, 0] 0 ≠ 0)
          ∧ (s.Ready 2 .queryOrder [0, 2, 1] ∧ ∀ q ∈ s.reorders, u16 [0, 2, 1] 0 ≤ q.number → 65535 ≤ q.number))
      ∧ ∃ (s : State) (x : Callout), s.Ready 0 .queryCallouts [0, 191] ∧ u16 [0, 191] 0 < 192
        ∧ ([((191 : CalloutNo), x)].map (·.1)).Pairwise (· < ·)
        ∧ ∀ n y, (n, y) ∈ [((191 : CalloutNo), x)] ↔ u16 [0, 191] 0 ≤ n.val ∧ s.callouts.rd n = some y := by
  refine ⟨by unfold State.Ready; decide +kernel, by unfold State.Ready; decide +kernel,
    { office with callouts := office.callouts.wr 191 (some ⟨1, ⟨0, 0⟩, .opened, 0, none, none⟩) },
    ⟨1, ⟨0, 0⟩, .opened, 0, none, none⟩, by unfold State.Ready; decide +kernel, by decide +kernel,
    by decide +kernel, ?_⟩
  intro n y
  have h191 : u16 [0, 191] 0 = 191 := by decide +kernel
  simp only [h191, List.mem_singleton, Prod.mk.injEq, Table.rd_wr]
  constructor
  · rintro ⟨rfl, rfl⟩
    simp
  · rintro ⟨h, hy⟩
    have hn : n = 191 := Fin.ext (by have := n.isLt; change n.val = 191; omega)
    subst hn
    simp at hy
    exact ⟨rfl, hy.symm⟩

/-! ### Premises: printers, tenants, accounts -/

theorem test_premises_EnrolmentBegins :
    (office.Ready 0 .enrolPrinter [7, 7, 1, 0, 0] ∧ u8 [7, 7, 1, 0, 0] 1 = (7 : PositionNo).val
        ∧ sharingAt [7, 7, 1, 0, 0] 2 = some (.shared 0) ∧ office.printers.rd (printerAt 7 7) = .absent)
      ∧ (office.Ready 0 .enrolPrinter [3, 5, 0, 0, 1] ∧ sharingAt [3, 5, 0, 0, 1] 2 = some (.dedicated 0)
        ∧ (∀ t ∈ (Sharing.dedicated 0).named, (office.tenants.rd t).isSome = true)
        ∧ office.printers.rd (printerAt 3 5) ≠ .absent)
      ∧ (office.Ready 0 .enrolPrinter [0, 0, 0, 128, 0] ∧ sharingAt [0, 0, 0, 128, 0] 2 = some (.dedicated 15)
        ∧ ∃ t ∈ (Sharing.dedicated 15).named, office.tenants.rd t = none)
      ∧ (u8 [0, 128, 0] 0 = 0 ∧ u16 [0, 128, 0] 1 = 2 ^ (15 : TenantNo).val) ∧ u8 [1, 255, 255] 0 = 1 := by
  unfold State.Ready
  decide +kernel

/-- The office with an enrolment under way at its printer, its DESCRIBE in flight. -/
def enrolling (outstanding : Option Outstanding) : State := asked { office with
  printers := office.printers.wr 29 (.enrolling (.dedicated 0) (some (0, 9)))
  ports := office.ports.wr 0 { Port.fresh .facilities with outstanding := outstanding } } .describe

theorem test_premises_EnrolmentEnds :
    (∀ o, (enrolling o).Asked 3 5 .describe
        ∧ (enrolling o).printers.rd (printerAt 3 5) = .enrolling (.dedicated 0) (some (0, 9))
        ∧ ((enrolling o).ports.rd 0).outstanding = o)
      ∧ (descriptor15.length ≤ 48 ∧ descriptorValid descriptor15 = true)
      ∧ ((List.replicate 48 (0 : Byte)).length ≤ 48 ∧ descriptorValid (List.replicate 48 0) = false)
      ∧ none ≠ some (⟨0x10, 9⟩ : Outstanding) :=
  ⟨fun o => ⟨asked_asked _ _, by simp [enrolling, asked, show printerAt 3 5 = 29 from rfl], by simp [enrolling, asked]⟩,
    by decide +kernel, by decide +kernel, by decide⟩

theorem test_premises_DescriptorDecodes :
    ((3 : Nat) < 4 ∧ (31 : Nat) < 32 ∧ (7 : Nat) < 8) ∧ u8 descriptor15 25 = 1 + 4 * 4 + 64 * 0
      ∧ (4 - 1 < u8 descriptor15 2) ∧ u8 descriptor15 (4 + 3 * 3) % 4 = 2 := by decide +kernel

/-- The office with its printer in another service state, and a session there. -/
def serving (service : Service) (session : Option Session) : State := { office with
  printers := office.printers.wr 29 (.enrolled { prn with service := service })
  sessions := office.sessions.wr 29 session }

/-- A session of the office's account. -/
def sess (releasing loggedOut : Bool) (release : List Handle) (window : Option Nat) : Session :=
  ⟨releasing, key, Table.fill 8 (some h0), release, window, loggedOut, none⟩

theorem test_premises_PrintersAreDisabledAndEnabled :
    (office.Ready 0 .disablePrinter [29] ∧ u8 [29] 0 = (29 : PrinterNo).val ∧ office.printers.rd 29 = .enrolled prn
        ∧ prn.service = .inService)
      ∧ ((serving .draining none).Ready 0 .disablePrinter [29]
        ∧ (serving .draining none).printers.rd 29 = .enrolled { prn with service := .draining })
      ∧ (office.Ready 0 .disablePrinter [63] ∧ office.enrolled 63 = none)
      ∧ office.Ready 0 .enablePrinter [29] ∧ office.Ready 0 .enablePrinter [63] := by
  unfold State.Ready
  decide +kernel

theorem test_premises_PrinterIsRemovedAndShared :
    ((serving .disabled none).Ready 0 .removePrinter [29]
        ∧ (serving .disabled none).printers.rd 29 = .enrolled { prn with service := .disabled })
      ∧ (office.Ready 0 .removePrinter [29] ∧ prn.service ≠ .disabled)
      ∧ (let s := serving .inService (some (sess false false [] (some 90)));
        s.Ready 0 .setSharing [29, 1, 0, 1] ∧ sharingAt [29, 1, 0, 1] 1 = some (.shared 1)
          ∧ (∀ t ∈ (Sharing.shared 1).named, (s.tenants.rd t).isSome = true) ∧ s.printers.rd 29 = .enrolled prn
          ∧ s.sessions.rd 29 = some (sess false false [] (some 90))
          ∧ (Sharing.shared 1).gives (sess false false [] (some 90)).account.tenant = true
          ∧ s.Ready 0 .setSharing [29, 1, 0, 0] ∧ sharingAt [29, 1, 0, 0] 1 = some (.shared 0)
          ∧ (Sharing.shared 0).gives (sess false false [] (some 90)).account.tenant = false)
      ∧ (office.Ready 0 .setSharing [63, 1, 0, 0] ∧ office.enrolled 63 = none)
      ∧ (office.Ready 0 .setSharing [29, 1, 128, 0] ∧ sharingAt [29, 1, 128, 0] 1 = some (.shared 0x8000)
        ∧ ∃ t ∈ (Sharing.shared 0x8000).named, office.tenants.rd t = none) := by
  unfold State.Ready
  decide +kernel

theorem rehold_some {s : State} (h : (s.rehold h0 29).isSome = true) : ∃ u, s.rehold h0 29 = some u :=
  Option.isSome_iff_exists.mp h

theorem test_premises_ChannelIsReset :
    (let s := withJob (.granted 29 false none) (some h0);
      s.Ready 0 .resetChannel [3] ∧ u8 [3] 0 = (3 : ChannelNo).val
        ∧ s.printers.rd (printerAt 3 5) = .enrolled { prn with activeJob := some h0 }
        ∧ s.job h0 = some (job (.granted 29 false none)))
      ∧ (office.Ready 0 .resetChannel [3] ∧ office.printers.rd (printerAt 3 5) = .enrolled prn
        ∧ prn.activeJob = none)
      ∧ ((enrolling none).Ready 0 .resetChannel [3]
        ∧ (enrolling none).printers.rd (printerAt 3 5) = .enrolling (.dedicated 0) (some (0, 9)))
      ∧ (office.printers.rd (printerAt 3 0) = .absent ∧ office.enrolled (printerAt 3 0) = none)
      ∧ ((channelOf 63 ≠ 3) ∧ (withJob (.printing 29 false) (some h0)).jobAt 0 = some (job (.printing 29 false)))
      ∧ (let u := withJob (.granted 29 false none) (some h0);
        (∃ v, u.rehold h0 29 = some v) ∧ u.activeJob 29 = some h0 ∧ u.job h0 = some (job (.granted 29 false none)))
      ∧ ((office.enrolled 29).isSome = true ∧ office.activeJob 29 = none)
      ∧ (∀ o, (enrolling o).printers.rd 29 = .enrolling (.dedicated 0) (some (0, 9))
        ∧ ((enrolling o).ports.rd 0).outstanding = o ∧ (enrolling o).activeJob 29 = none) := by
  refine ⟨by unfold State.Ready; decide +kernel, by unfold State.Ready; decide +kernel,
    by unfold State.Ready; decide +kernel, by decide +kernel, by decide +kernel,
    ⟨rehold_some (by decide +kernel), by decide +kernel⟩, by decide +kernel, fun o => ⟨?_, ?_, ?_⟩⟩ <;>
    simp [enrolling, asked, State.activeJob, State.enrolled, Printer.enrolled?]

theorem test_premises_TenantIsDefinedAndAmended :
    (let b := [16, 0, 0, 0, 0, 1, 0, 0, 0, 1, 6, 3, 15, 0, 4, 0, 8, 0];
      office.Ready 0 .defineTenant b ∧ b.length = 18 ∧ u8 b 0 = (15 : TenantNo).val + 1 ∧ u8 b 1 = 0 ∧ u8 b 5 = 1
        ∧ u8 b 9 ≠ 0 ∧ u8 b 10 ≠ 0 ∧ u8 b 11 ≠ 0 ∧ u8 b 12 ≠ 0 ∧ u16 b 14 = 1024 ∧ u16 b 16 = 2048
        ∧ office.tenants.rd 15 = none)
      ∧ (let b := [1, 1, 0, 0, 0, 0, 0, 0, 0, 255, 255, 255, 255, 168, 0, 1, 0, 1];
        office.Ready 0 .defineTenant b ∧ u8 b 0 = (0 : TenantNo).val + 1 ∧ u16 b 14 = 1 ∧ office.tenants.rd 0 ≠ none)
      ∧ (let b := [17, 1, 0, 0, 0, 0, 0, 0, 0, 255, 255, 255, 255, 168, 0, 1, 0, 1];
        office.Ready 0 .defineTenant b ∧ 16 < u8 b 0)
      ∧ (let b := [1, 0, 0, 0, 0, 1, 0, 0, 0, 0, 1, 6, 3, 15, 0, 0, 0, 0, 1, 0, 0, 1];
        let x := { ten with liveJobs := 0, poolReserved := 0 };
        office.Ready 0 .amendTenant b ∧ b.length = 22 ∧ u8 b 0 = (0 : TenantNo).val + 1 ∧ u8 b 1 ≤ 1 ∧ u8 b 5 ≤ 1
          ∧ u8 b 9 = 0 ∧ u8 b 10 ≠ 0 ∧ u8 b 11 ≠ 0 ∧ u8 b 12 ≠ 0 ∧ u8 b 13 ≠ 0 ∧ u8 b 14 = 0 ∧ u8 b 16 = 0
          ∧ u16 b 17 = 1 ∧ u8 b 19 = 0 ∧ u16 b 20 = 1 ∧ office.tenants.rd 0 = some x ∧ x.liveJobs ≤ u16 b 17
          ∧ x.accountCount ≤ u16 b 20)
      ∧ (let b := [16, 3, 0, 0, 0, 3, 0, 0, 0, 3, 0, 0, 0, 0, 3, 0, 0, 0, 1, 3, 0, 0];
        let s := { office with tenants := office.tenants.wr 15 (some { ten with liveJobs := 2 }) };
        s.Ready 0 .amendTenant b ∧ u8 b 0 = (15 : TenantNo).val + 1 ∧ u8 b 1 = 3 ∧ u8 b 5 = 3 ∧ u8 b 9 = 3
          ∧ u8 b 14 = 3 ∧ u8 b 16 = 0 ∧ u8 b 19 = 3 ∧ s.tenants.rd 15 = some { ten with liveJobs := 2 }
          ∧ u16 b 17 < { ten with liveJobs := 2 }.liveJobs ∧ office.Ready 0 .amendTenant b
          ∧ office.tenants.rd 15 = none) := by
  refine ⟨?_, ?_, ?_, ?_, ?_⟩
  all_goals
    unfold State.Ready
    decide +kernel

theorem test_premises_PoolIsRenewed :
    (office.Ready 0 .renewPool [1] ∧ u8 [1] 0 = (0 : TenantNo).val + 1
        ∧ office.tenants.rd 0 = some { ten with liveJobs := 0, poolReserved := 0 })
      ∧ (office.Ready 0 .renewPool [16] ∧ u8 [16] 0 = (15 : TenantNo).val + 1 ∧ office.tenants.rd 15 = none)
      ∧ (office.Ready 0 .renewPool [0] ∧ u8 [0] 0 = 0) ∧ (office.Ready 0 .renewPool [17] ∧ 16 < u8 [17] 0) := by
  unfold State.Ready
  decide +kernel

theorem test_premises_TenantIsRemoved :
    (office.Ready 0 .removeTenant [1] ∧ (office.tenants.rd 0).isSome = true
        ∧ ∀ n j p cam, office.jobAt n = some j → j.owner.tenant = 0 → j.state.active ≠ some (p, cam))
      ∧ ((withJob (.printing 29 false) (some h0)).Ready 0 .removeTenant [1]
        ∧ ∃ n j p cam, (withJob (.printing 29 false) (some h0)).jobAt n = some j ∧ j.owner.tenant = 0
          ∧ j.state.active = some (p, cam)) := by
  refine ⟨⟨by unfold State.Ready; decide +kernel, by decide +kernel, fun n j p cam h => ?_⟩,
    by unfold State.Ready; decide +kernel, 0, job (.printing 29 false), 29, false, by decide +kernel⟩
  rw [office_jobAt] at h
  exact nomatch h

/-- The office with a tenant whose accounts stand at its limit, and one with the whole account table in use. -/
def atLimit : State := { office with tenants := office.tenants.wr 0 (some { ten with accountLimit := 1 }) }
def tableFull : State := { office with accounts := List.replicate 2048 { acc with key := ⟨15, 1⟩ } }

theorem test_premises_AccountsAreCreatedAndRenewed :
    (let b := [0, 1, 0, 0, 0, 0, 2, 0, 0, 0];
      office.Ready 1 .createAccount b ∧ (office.ports.rd 1).role = .tenant 0 ∧ u16 b 0 ≠ 0 ∧ u32 b 2 = 0
        ∧ u8 b 6 = 2 ∧ (∀ a ∈ office.accounts, a.key ≠ ⟨0, u16 b 0⟩) ∧ office.accounts.length < 2048
        ∧ office.tenants.rd 0 = some { ten with liveJobs := 0, poolReserved := 0 } ∧ ten.accountCount < ten.accountLimit
        ∧ atLimit.Ready 1 .createAccount b ∧ atLimit.tenants.rd 0 = some { ten with accountLimit := 1 }
        ∧ { ten with accountLimit := 1 }.accountLimit ≤ ten.accountCount
        ∧ tableFull.Ready 1 .createAccount b ∧ (∀ a ∈ tableFull.accounts, a.key ≠ ⟨0, u16 b 0⟩)
        ∧ 2048 ≤ tableFull.accounts.length)
      ∧ (let b := [0, 1, 0, 0, 190, 239, 1, 0, 0, 0];
        office.Ready 1 .createAccount b ∧ u32 b 2 ≠ 0 ∧ ∃ a ∈ office.accounts, a.credential = some (u32 b 2))
      ∧ (office.Ready 1 .renewPeriod [4, 0, 0] ∧ u8 [4, 0, 0] 0 = 4)
      ∧ (office.Ready 1 .renewPeriod [0, 1, 159] ∧ ∃ a ∈ office.accounts, a.key = ⟨0, u16 [0, 1, 159] 1⟩)
      ∧ (office.Ready 1 .renewPeriod [0, 255, 255]
        ∧ ∀ a ∈ office.accounts, a.key ≠ ⟨0, u16 [0, 255, 255] 1⟩) := by
  unfold State.Ready
  decide +kernel

/-- The office with a second account, and with its account in a session at the printer. -/
def two : State := { office with accounts := [acc0, { acc0 with key := ⟨0, 1⟩, credential := some 7 }] }
def present1 : State := { serving .inService (some (sess false false [] (some 90))) with
  accounts := [{ acc0 with session := some 29 }] }

theorem test_premises_AccountIsAmendedAndRemoved :
    (let b := [1, 159, 0, 0, 0, 0, 0, 0, 0, 0, 8, 0, 1];
      two.Ready 1 .amendAccount b ∧ (two.ports.rd 1).role = .tenant 0 ∧ b.length = 13 ∧ u16 b 0 ≠ 0 ∧ u8 b 2 ≤ 3
        ∧ u8 b 6 = 0 ∧ u8 b 11 = 0 ∧ u8 b 12 ≤ 1 ∧ (two.accounts.map (·.key)).Nodup ∧ acc0 ∈ two.accounts
        ∧ acc0.key = ⟨0, u16 b 0⟩ ∧ u32 b 7 ≠ 0
        ∧ (∀ a ∈ two.accounts, a.key ≠ acc0.key → a.credential ≠ some (u32 b 7)) ∧ acc0.session = none
        ∧ present1.Ready 1 .amendAccount b ∧ { acc0 with session := some 29 } ∈ present1.accounts
        ∧ acc0.barred = false ∧ ({ acc0 with session := some 29 } : Account).session = some 29)
      ∧ (let b := [1, 159, 3, 0, 0, 0, 0, 0, 0, 0, 7, 3, 0];
        two.Ready 1 .amendAccount b ∧ u8 b 2 ≤ 3 ∧ u8 b 11 = 3 ∧ u8 b 6 = 0 ∧ u32 b 7 ≠ 0
          ∧ ∃ a ∈ two.accounts, a.key ≠ acc0.key ∧ a.credential = some (u32 b 7))
      ∧ (let b := [255, 255, 3, 0, 0, 0, 3, 0, 0, 0, 0, 3, 0];
        two.Ready 1 .amendAccount b ∧ ∀ a ∈ two.accounts, a.key ≠ ⟨0, u16 b 0⟩)
      ∧ (office.Ready 1 .removeAccount [1, 159] ∧ office.account ⟨0, u16 [1, 159] 0⟩ = some acc0
        ∧ ∀ n j, office.jobAt n = some j → j.owner = acc0.key → j.state.active = none)
      ∧ (let s := withJob (.printing 29 false) (some h0);
        s.Ready 1 .removeAccount [1, 159] ∧ s.account ⟨0, u16 [1, 159] 0⟩ = some acc0
          ∧ ∃ n j, s.jobAt n = some j ∧ j.owner = acc0.key ∧ j.state.active ≠ none)
      ∧ (office.Ready 1 .removeAccount [0, 1] ∧ office.account ⟨0, u16 [0, 1] 0⟩ = none) := by
  refine ⟨by unfold State.Ready; decide +kernel, by unfold State.Ready; decide +kernel,
    by unfold State.Ready; decide +kernel, ⟨by unfold State.Ready; decide +kernel, by decide +kernel,
      fun n j h => ?_⟩, ⟨by unfold State.Ready; decide +kernel, by decide +kernel, 0, job (.printing 29 false),
      by decide +kernel⟩, by unfold State.Ready; decide +kernel⟩
  rw [office_jobAt] at h
  exact nomatch h

/-! ### Premises: the job pool -/

theorem test_premises_JobIsSubmitted :
    (let b := [1, 159, 0, 8, 0, 0, 0, 0, 0, 1, 0, 0, 2, 29];
      office.Ready 1 .submitJob b ∧ (office.ports.rd 1).role = .tenant 0 ∧ b.length = 14 ∧ u16 b 0 ≠ 0 ∧ u16 b 8 ≠ 0
        ∧ (∃ a ∈ office.accounts, a.key = ⟨0, u16 b 0⟩) ∧ (u8 b 12).testBit 1 = true
        ∧ u8 b 13 = (29 : PrinterNo).val ∧ (office.enrolled 29).isSome = true
        ∧ office.tenants.rd 0 = some { ten with liveJobs := 0, poolReserved := 0 } ∧ 0 < ten.jobLimit)
      ∧ office.freeList = 0 :: (List.finRange 1024).tail
      ∧ (∀ n j, office.jobAt n = some j → j.owner.tenant = 0 → j.tag ≠ u16 [1, 159, 0, 8] 2)
      ∧ ({ office with freeList := [] } : State).freeList = []
      ∧ (∃ x : Tenant, x.jobLimit ≤ x.liveJobs)
      ∧ ∃ n j, (withJob .held none).jobAt n = some j ∧ j.owner.tenant = 0 ∧ j.tag = u16 [1, 159, 0, 7] 2 := by
  refine ⟨by unfold State.Ready; decide +kernel, by decide +kernel, fun n j h => ?_, rfl,
    ⟨{ ten with liveJobs := 10 }, by decide⟩, 0, job .held, by decide +kernel⟩
  rw [office_jobAt] at h
  exact nomatch h

theorem test_premises_RecordsAreFreed :
    (let s := withJob .held none;
      s.jobAt 0 = some (job .held) ∧ s.Ready 1 .withdraw [0, 0] ∧ (s.ports.rd 1).role = .tenant 0
        ∧ handleAt [0, 0] 0 = h0 ∧ s.job h0 = some (job .held) ∧ s.Ready 1 .takeCompletions [])
      ∧ (let s := withJob (.printing 29 false) (some h0);
        s.Ready 1 .withdraw [0, 0] ∧ s.job h0 = some (job (.printing 29 false)) ∧ (job (.printing 29 false)).state ≠ .held)
      ∧ (office.Ready 1 .withdraw [255, 255] ∧ office.job ⟨1023, 63⟩ = none ∧ handleAt [255, 255] 0 = ⟨1023, 63⟩)
      ∧ (State.tenants (withJob .held none)).rd 0 = some { ten with liveJobs := 0, poolReserved := 0 }
      ∧ (withJob (.complete .done ⟨65535, 86399⟩) none).jobAt 0 = some (job (.complete .done ⟨65535, 86399⟩)) := by
  unfold State.Ready
  decide +kernel

/-- A state in which the only job is HELD with no hold minutes left. -/
def due : State := { withJob .held none with jobs := office.jobs.wr 0 ⟨0, some { job .held with holdMinutes := 0 }⟩ }

/-- A session releasing one handle, at a printer without an active job, and one showing it. -/
def releasing1 : State := { withJob .held none with sessions := office.sessions.wr 29 (some (sess true false [h0] none)) }

theorem test_premises_HeldJobExpires :
    (due.submission = [] ++ 0 :: [] ∧ due.jobAt 0 = some { job .held with holdMinutes := 0 }
        ∧ ∀ p x, due.sessions.rd p = some x → due.handleOf 0 ∉ x.release)
      ∧ (∀ m ∈ office.submission, ∀ i, office.jobAt m = some i → i.state = .held → i.holdMinutes = 0 →
          ∃ p x, office.sessions.rd p = some x ∧ office.handleOf m ∈ x.release)
      ∧ (let x := sess true false [h0] none;
        releasing1.sessions.rd 29 = some x ∧ x.releasing = true ∧ h0 ∈ x.release ∧ (∀ g ∈ x.release, g = h0)
          ∧ releasing1.activeJob 29 = none ∧ releasing1.printers.rd 29 = .enrolled { prn with activeJob := none })
      ∧ (let x := sess false false [] (some 90);
        ¬ (x.releasing = true ∧ h0 ∈ x.release) ∧ some h0 ∈ x.eligible.cells) := by
  refine ⟨⟨by decide +kernel, by decide +kernel, fun p x h => ?_⟩, ?_, by decide +kernel, by decide +kernel⟩
  · have hs : due.sessions.rd p = none := office_sessions p
    rw [hs] at h
    exact nomatch h
  · intro m hm
    have : office.submission = [] := rfl
    rw [this] at hm
    exact nomatch hm

/-- R75 and R197: the statement whether a handle stands in a release list is a flag, 01h where it does, and the
printer follows it then. -/
theorem test_query_job_flags_the_release_list :
    ((releasing1.jobBody h0 (job .held)).reverse.take 3 = [1, 29, 1])
      ∧ (((withJob .held none).jobBody h0 (job .held)).reverse.take 2 = [0, 0]) := by decide +kernel

/-! ### Premises: the clock and the timers -/

theorem test_premises_MarksCountTimersDown :
    (office.printers.rd 29 = .enrolled prn ∧ office.enrolled 63 = none)
      ∧ (let s := { withJob .held none with minuteMarksDue := 1 };
        0 < s.minuteMarksDue ∧ s.jobAt 0 = some (job .held) ∧ 0 ∈ s.submission ∧ s.sessions = Table.fill 64 none)
      ∧ (let s := { office with clock := ⟨0, 59⟩ };
        s.minuteMarksDue = 0 ∧ ∃ u, exec .secondMark s = .next u ∧ u.clock.second % 60 = 0)
      ∧ ∃ u, exec .secondMark office = .next u ∧ u.clock.second % 60 ≠ 0 :=
  ⟨by decide +kernel, ⟨by decide +kernel, by decide +kernel, by decide +kernel, rfl⟩,
    ⟨rfl, _, rfl, by decide +kernel⟩, _, rfl, by decide +kernel⟩

theorem test_premises_DayCloseRatesAndTests :
    ({ office with dayClosesDue := 1 }.SlotsDerived ∧ 0 < { office with dayClosesDue := 1 }.dayClosesDue)
      ∧ (let s := { office with clock := ⟨65535, 86399⟩ };
        s.dayClosesDue = 0 ∧ 86399 ≤ s.clock.second ∧ ∃ u, exec .secondMark s = .next u)
      ∧ ({ office with clock := ⟨0, 86398⟩ }.clock.second < 86399) :=
  ⟨⟨slotsDerived_of rfl, by decide⟩, ⟨rfl, by decide, _, rfl⟩, by decide⟩

theorem test_premises_ClockIsSetAndFleetIsReset :
    (let b := [0, 255, 255, 0, 1, 81, 127];
      office.Ready 0 .setClock b ∧ b.length = 7 ∧ u8 b 0 = 0 ∧ u8 b 3 = 0 ∧ u24 b 4 = 86399)
      ∧ (office.Ready 0 .setClock [3, 0, 0, 3, 0, 0, 0] ∧ u8 [3, 0, 0, 3, 0, 0, 0] 3 = 3)
      ∧ (office.Ready 0 .setClock [3, 0, 0, 0, 1, 81, 128] ∧ 86399 < u24 [3, 0, 0, 0, 1, 81, 128] 4)
      ∧ (office.Ready 0 .fleetReset [0] ∧ [(0 : Byte)] ≠ []) := by
  unfold State.Ready
  decide +kernel

theorem test_premises_SessionsEndAndSilenceProbes :
    office.sessions.rd 29 = none
      ∧ (serving .inService (some (sess false false [] (some 0)))).sessions.rd 29 = some (sess false false [] (some 0))
      ∧ ((sess false false [] (some 0)).releasing = false ∧ (sess false false [] (some 0)).window = some 0)
      ∧ (sess false false [] (some 1)).window ≠ some 0
      ∧ ({ office with positions := office.positions.wr 29 { Position.clear with silence := some 0 } }.positions.rd
          (printerAt 3 5)).silence = some 0
      ∧ (office.positions.rd (printerAt 3 5)).silence ≠ some 0 := by decide +kernel

theorem test_premises_JobsAreReheld :
    (let s := withJob (.granted 29 false (some 0)) (some h0);
      s.job h0 = some (job (.granted 29 false (some 0))) ∧ (JobState.granted 29 false (some 0)).active = some (29, false)
        ∧ s.printers.rd 29 = .enrolled { prn with activeJob := some h0 } ∧ (s.tenants.rd 0).isSome = true
        ∧ s.activeJob 29 = some h0)
      ∧ (∃ u, (withJob (.granted 29 false (some 0)) (some h0)).rehold h0 29 = some u)
      ∧ (∃ u, (withJob (.suspended 29 false 0) (some h0)).rehold h0 29 = some u)
      ∧ (withJob (.suspended 29 false 0) (some h0)).activeJob 29 = some h0
      ∧ (office.job h0 = none ∧ office.activeJob 29 = none) :=
  ⟨by decide +kernel, rehold_some (by decide +kernel), rehold_some (by decide +kernel), by decide +kernel, by decide +kernel⟩

/-- The office with a raised class whose grace timer has run out, and a callout of it or none. -/
def lasting (cls : CondClass) (callout : Option Callout) : State := { office with
  printers := office.printers.wr 29 (.enrolled { prn with
    codes := prn.codes.set cls 1, grace := prn.grace.set cls (some 0) })
  callouts := office.callouts.wr (calloutNo 29 cls) callout }

theorem test_premises_GraceExpiryOpensCallouts :
    (∀ o, (lasting .supply o).printers.rd 29
          = .enrolled { prn with codes := prn.codes.set .supply 1, grace := prn.grace.set .supply (some 0) }
        ∧ (lasting .supply o).callouts.rd (calloutNo 29 .supply) = o)
      ∧ (prn.grace.set .supply (some 0)).get .supply = some 0 ∧ min (255 + 1) 255 = 255
      ∧ (⟨1, ⟨0, 0⟩, .cleared, 255, none, none⟩ : Callout).state = .cleared ∧ prn.grace.get .supply ≠ some 0
      ∧ (4 : Nat) < 5 ∧ (withJob (.suspended 29 false 0) (some h0)).activeJob 29 = some h0
      ∧ ∃ u, (withJob (.suspended 29 false 0) (some h0)).rehold h0 29 = some u :=
  ⟨fun o => ⟨by simp [lasting], by simp [lasting]⟩, rfl, rfl, rfl, by decide, by decide, by decide +kernel,
    rehold_some (by decide +kernel)⟩

/-! ### Premises: the riser channels -/

/-- The office with one mark set, or the service request line active, at its printer. -/
def marked (s : State) (kind : MarkKind) : State :=
  { s with positions := s.positions.wr 29 (Position.clear.withMark kind true) }

theorem unmarked (p : PrinterNo) (kind : MarkKind) : (office.positions.rd p).marked kind = false := by
  cases kind <;> simp [office, State.reset, Position.clear, Position.marked]

theorem test_premises_ArbiterServesInOrder :
    (called office).channels.rd 3 ≠ .idle
      ∧ (∀ kind s, s.channels = Table.fill 8 .idle → s.positions = office.positions →
        (marked s kind).channels.rd 3 = .idle ∧ ((marked s kind).positions.rd (printerAt 3 5)).marked kind = true
          ∧ (∀ j, j < 5 → ∀ m, ((marked s kind).positions.rd (printerAt 3 j)).marked m = false)
          ∧ ∀ m : MarkKind, m.code < kind.code → ((marked s kind).positions.rd (printerAt 3 5)).marked m = false)
      ∧ (let s := withJob (.granted 29 false none) (some h0);
        s.activeJob (printerAt 3 5) = some h0 ∧ s.job h0 = some (job (.granted 29 false none)))
      ∧ (serving .inService (some (sess false false [] (some 90)))).sessions.rd (printerAt 3 5)
        = some (sess false false [] (some 90))
      ∧ (enrolling none).printers.rd (printerAt 3 5) = .enrolling (.dedicated 0) (some (0, 9))
      ∧ (office.enrolled (printerAt 3 5)).isSome = true
      ∧ (office.channels.rd 3 = .idle ∧ (∀ k m, (office.positions.rd (printerAt 3 k)).marked m = false)
        ∧ ∀ k, office.serviceLines.rd (printerAt 3 k) = false)
      ∧ (∀ kind, (marked office kind).activeJob 29 = none ∧ (marked office kind).sessions.rd 29 = none
        ∧ (marked office kind).printers.rd 29 = .enrolled prn ∧ (marked (enrolling none) kind).enrolled 29 = none)
      ∧ (let s := { office with serviceLines := office.serviceLines.wr 29 true };
        s.channels.rd 3 = .idle ∧ s.serviceLines.rd (printerAt 3 5) = true
          ∧ (∀ j, j < 5 → s.serviceLines.rd (printerAt 3 j) = false)
          ∧ ∀ j m, (s.positions.rd (printerAt 3 j)).marked m = false) := by
  refine ⟨by decide +kernel, fun kind s hc hp => ⟨by simp [marked, hc], ?_, ?_, ?_⟩, by decide +kernel,
    by decide +kernel, by decide +kernel, by decide +kernel, ⟨by decide +kernel, fun k m => unmarked _ m,
      by decide +kernel⟩, ?_, by decide +kernel, by decide +kernel, by decide +kernel, fun j m => unmarked _ m⟩
  · cases kind <;> simp [marked, show printerAt 3 5 = 29 from rfl, Position.withMark, Position.marked]
  · intro j hj m
    have h29 : (29 : PrinterNo) ≠ printerAt 3 j := by revert hj; revert j; decide
    simp only [marked, hp, Table.rd_wr, h29, if_false]
    exact unmarked _ m
  · intro m hm
    cases kind <;> cases m <;>
      simp [marked, show printerAt 3 5 = 29 from rfl, Position.withMark, Position.marked, Position.clear,
        MarkKind.code] at hm ⊢
  · intro kind
    cases kind <;> decide +kernel

/-- The office with NO ANSWER held at its printer, and a callout of it. -/
def silent (state : CalloutState) : State := { office with
  printers := office.printers.wr 29 (.enrolled { prn with codes := ⟨0, 0, 255⟩ })
  callouts := office.callouts.wr (calloutNo 29 .service) (some ⟨255, ⟨0, 0⟩, state, 0, none, none⟩) }

theorem test_premises_StrayFramesAreOnlyHeard :
    office.enrolled 63 = none ∧ office.printers.rd 29 = .enrolled prn ∧ prn.codes.service ≠ 255
      ∧ (silent .opened).printers.rd 29 = .enrolled { prn with codes := ⟨0, 0, 255⟩ }
      ∧ (∀ st, ∃ x, (silent st).callouts.rd (calloutNo 29 .service) = some x ∧ x.state = st)
      ∧ ((List.replicate 48 (0 : Byte)).length ≤ 48 ∧ ¬ ((4 : Byte) = 2 ∨ (4 : Byte) = 3))
      ∧ (¬ office.Called 3 5 ∧ ∀ sent, ¬ office.Asked 3 5 sent)
      ∧ RiserFrame.receive [0xA5] = none
      ∧ RiserFrame.receive (RiserFrame.bytes ⟨5, 9, 0, []⟩) = some ⟨5, 9, 0, []⟩ := by
  refine ⟨by decide +kernel, by decide +kernel, by decide +kernel, by decide +kernel,
    fun st => ⟨⟨255, ⟨0, 0⟩, st, 0, none, none⟩, by simp [silent], rfl⟩, by decide, ⟨?_, ?_⟩, by decide +kernel,
    by decide +kernel⟩
  · rintro ⟨timer, h⟩
    simp [office, State.reset] at h
  · rintro sent ⟨timer, h⟩
    simp [office, State.reset] at h

theorem test_premises_ReportsAreExaminedInOrder :
    (∀ s : State, (called s).Called 3 5) ∧ (List.replicate 48 (0 : Byte)).length ≤ 48
      ∧ (called State.reset).enrolled (printerAt 3 5) = none
      ∧ (called office).printers.rd (printerAt 3 5) = .enrolled prn
      ∧ ((15 : Byte).toNat < 16 ∧ 24 < (25 : Byte).toNat)
      ∧ (∃ r, reportRule 0x11 = some r ∧ [(0 : Byte)].length ≠ r.length)
      ∧ (∃ r, reportRule 0x13 = some r ∧ [(0 : Byte), 0].length = r.length ∧ r.namesJob = true
        ∧ prn.activeJob ≠ some (handleAt [0, 0] 0)) :=
  ⟨called_called, by decide, by decide +kernel, by decide +kernel, by decide, ⟨_, rfl, by decide⟩,
    ⟨_, rfl, by decide, rfl, by decide⟩⟩

theorem test_premises_AnswersAreTaken :
    (let s := asked (withJob (.granted 29 false none) (some h0)) (.grant h0 0 0 0 false);
      s.Asked 3 5 (.grant h0 0 0 0 false)
        ∧ s.printers.rd (printerAt 3 5) = .enrolled { prn with activeJob := some h0 }
        ∧ s.job h0 = some (job (.granted (printerAt 3 5) false none)) ∧ [(1 : Byte)].length ≤ 48
        ∧ (∃ v, State.rehold { s.heard (printerAt 3 5) false with channels := s.channels.wr 3 .idle } h0 29 = some v)
        ∧ [(2 : Byte)] ≠ [1])
      ∧ ((asked (withJob .held none) (.grant h0 0 0 0 false)).job h0 = some (job .held))
      ∧ (asked office (.revoke none)).Asked 3 5 (.revoke none) ∧ (RiserRequest.revoke none).kind.code = (1 : Byte).toNat
      ∧ (asked office (.probe false)).Asked 3 5 (.probe false)
      ∧ (asked office (.probe true)).Asked 3 5 (.probe true) :=
  ⟨⟨asked_asked _ _, by decide +kernel, by decide +kernel, by decide, rehold_some (by decide +kernel), by decide⟩,
    by decide +kernel, asked_asked _ _, by decide, asked_asked _ _, asked_asked _ _⟩

theorem test_premises_TimeoutsRaiseNoAnswer :
    ((asked office (.probe false)).Asked 3 5 (.probe false)
        ∧ ((asked office (.probe false)).enrolled (printerAt 3 5)).isSome = true)
      ∧ ((enrolling (some ⟨0x10, 9⟩)).Asked 3 5 .describe
        ∧ (enrolling (some ⟨0x10, 9⟩)).printers.rd (printerAt 3 5) = .enrolling (.dedicated 0) (some (0, 9))
        ∧ ((enrolling (some ⟨0x10, 9⟩)).ports.rd 0).outstanding = some ⟨0x10, 9⟩)
      ∧ (let s := asked (enrolling none) (.probe false);
        s.Asked 3 5 (.probe false) ∧ s.printers.rd (printerAt 3 5) = .enrolling (.dedicated 0) (some (0, 9)))
      ∧ ((asked State.reset .describe).Asked 3 5 .describe
        ∧ (asked State.reset .describe).printers.rd (printerAt 3 5) = .absent)
      ∧ ((called office).Called 3 5 ∧ ((called office).enrolled (printerAt 3 5)).isSome = true)
      ∧ ((called State.reset).Called 3 5 ∧ (called State.reset).enrolled (printerAt 3 5) = none)
      ∧ ((∀ k sent, ¬ office.Asked 3 k sent) ∧ ∀ k, ¬ office.Called 3 k) := by
  refine ⟨⟨asked_asked _ _, by decide +kernel⟩, ⟨asked_asked _ _, by decide +kernel, by decide +kernel⟩,
    ⟨asked_asked _ _, by decide +kernel⟩, ⟨asked_asked _ _, by decide +kernel⟩, ⟨called_called _, by decide +kernel⟩,
    ⟨called_called _, by decide +kernel⟩, ?_, ?_⟩
  · rintro k sent ⟨timer, h⟩
    simp [office, State.reset] at h
  · rintro k ⟨timer, h⟩
    simp [office, State.reset] at h

/-! ### Premises: secure release -/

theorem test_premises_PresentationIsExaminedAndTaken :
    (let s := called office;
      s.Called 3 5 ∧ (s.heard 29 false).printers.rd 29 = .enrolled prn ∧ [(0 : Byte), 0, 190, 239].length = 4
        ∧ prn.service = .inService ∧ prn.codes = ⟨0, 0, 0⟩
        ∧ (s.heard 29 false).accountOfDigest (u32 [0, 0, 190, 239] 0) = some acc0 ∧ acc0.barred = false
        ∧ prn.sharing.gives acc0.key.tenant = true ∧ prn.activeJob = none ∧ acc0.session = none
        ∧ s.sessions.rd 29 = none)
      ∧ (u32 [0, 0, 0, 0] 0 = 0 ∧ ∀ a ∈ office.accounts, a.credential ≠ some (u32 [0, 0, 0, 1] 0))
      ∧ (let e := { prn with codes := ⟨1, 0, 0⟩ };
        ((called { office with printers := office.printers.wr 29 (.enrolled e) }).heard 29 false).printers.rd 29
          = .enrolled e ∧ e.codes ≠ ⟨0, 0, 0⟩)
      ∧ (((called (serving .draining none)).heard 29 false).printers.rd 29 = .enrolled { prn with service := .draining })
      ∧ (let s := called { office with accounts := [{ acc0 with barred := true }] };
        ((s.heard 29 false).accountOfDigest (u32 [0, 0, 190, 239] 0)).map (·.barred) = some true)
      ∧ (({ prn with sharing := .shared 0 } : Enrolled).sharing.gives acc0.key.tenant = false)
      ∧ (let s := called { withJob (.printing 29 false) (some h0) with accounts := [{ acc0 with key := ⟨0, 1⟩ }] };
        s.job h0 = some (job (.printing 29 false))
          ∧ ((s.heard 29 false).accountOfDigest (u32 [0, 0, 190, 239] 0)).map (·.key) = some ⟨0, 1⟩
          ∧ (job (.printing 29 false)).owner ≠ ⟨0, 1⟩)
      ∧ (let s := called { office with
            accounts := [{ acc0 with session := some 0 }]
            sessions := office.sessions.wr 0 (some (sess true false [] none)) };
        ((s.heard 29 false).accountOfDigest (u32 [0, 0, 190, 239] 0)).bind (·.session) = some 0
          ∧ s.sessions.rd 0 = some (sess true false [] none))
      ∧ (let s := called { serving .inService (some { sess false false [] (some 1) with account := ⟨0, 1⟩ }) with
            accounts := [acc0] };
        (s.sessions.rd 29).map (·.account) = some ⟨0, 1⟩ ∧ (⟨0, 1⟩ : AccountKey) ≠ acc0.key)
      ∧ (called present1).sessions.rd 29 = some (sess false false [] (some 90)) := by
  refine ⟨⟨called_called _, by decide +kernel, by decide +kernel⟩, by decide +kernel,
    by decide +kernel, by decide +kernel, by decide +kernel, by decide +kernel, by decide +kernel, by decide +kernel,
    by decide +kernel, by decide +kernel⟩

theorem test_premises_GrantIsChecked :
    (let a := { acc0 with charged := 1901 }; a.exhausted = false ∧ a.allowance = some 2000
        ∧ 2000 < a.charged + a.reserved + 100 ∧ ¬ 16777215 < a.reserved + 100)
      ∧ ({ acc0 with exhausted := true } : Account).exhausted = true
      ∧ (let a := { acc0 with allowance := none, reserved := 16777215 }; 16777215 < a.reserved + 1)
      ∧ (let a := { acc0 with reserved := 0 }; ¬ (a.exhausted = true ∨ 2000 < a.charged + a.reserved + 100
          ∨ 16777215 < a.reserved + 100))
      ∧ ({ ten with poolExhausted := true } : Tenant).poolExhausted = true
      ∧ (16777215 < ({ ten with poolReserved := 16777215 } : Tenant).poolReserved + 1) := by decide

theorem test_premises_SelectionChoosesEligibleJobs :
    (let s := called { withJob .held none with sessions := office.sessions.wr 29 (some (sess false false [] (some 90))) };
      s.Called 3 5 ∧ [(1 : Byte), 0].length = 2 ∧ (s.heard 29 false).printers.rd 29
          = .enrolled { prn with activeJob := none }
        ∧ s.sessions.rd 29 = some (sess false false [] (some 90))
        ∧ (s.heard 29 false).chosenList 29 prn (sess false false [] (some 90)) [1, 0] = [h0]
        ∧ (s.heard 29 false).chosenList 29 prn (sess false false [] (some 90)) [0, 0] = []
        ∧ (∀ n ∈ s.submission, n ∈ [(0 : RecordNo)] ↔ s.qualifies 29 prn key n = true) ∧ s.submission.Nodup)
      ∧ (sess true true [] none).releasing = true ∧ (sess true true [] none).loggedOut = true
      ∧ (called office).sessions.rd 29 = none :=
  ⟨⟨called_called _, by decide, by decide +kernel, by decide +kernel, by decide +kernel,
    by decide +kernel, by decide +kernel, by decide +kernel⟩, rfl, rfl, by decide +kernel⟩

theorem test_premises_GrantIsAttempted :
    (let x := sess true false [h0] none;
      releasing1.printers.rd 29 = .enrolled { prn with activeJob := none } ∧ releasing1.sessions.rd 29 = some x
        ∧ x.releasing = true ∧ x.release = h0 :: [] ∧ releasing1.job h0 = some (job .held)
        ∧ releasing1.account (job .held).owner = some acc0
        ∧ releasing1.tenants.rd 0 = some { ten with liveJobs := 0, poolReserved := 0 }
        ∧ estimate tariff68 true (job .held) = 100
        ∧ grantRefusal acc0 { ten with liveJobs := 0, poolReserved := 0 } 100 = none
        ∧ grantRefusal { acc0 with exhausted := true } { ten with liveJobs := 0, poolReserved := 0 } 100 = some .quota)
      ∧ office.job h0 = none ∧ ([⟨1, 0⟩] : List Handle) ≠ [] ∧ office.sessions.rd 29 = none := by decide +kernel

theorem test_premises_LogoutStartAndResumeAreTaken :
    (called (withJob (.granted 29 false (some 60)) (some h0))).Called 3 5
      ∧ (∀ st, (called (withJob st (some h0))).printers.rd 29 = .enrolled { prn with activeJob := some h0 }
        ∧ (called (withJob st (some h0))).job h0 = some (job st))
      ∧ handleAt [0, 0] 0 = h0 ∧ (called present1).sessions.rd 29 = some (sess false false [] (some 90))
      ∧ (let s := called { withJob (.printing 29 false) (some h0) with
          sessions := office.sessions.wr 29 (some (sess true false [] none)) };
        s.sessions.rd 29 = some (sess true false [] none) ∧ (sess true false [] none).releasing = true
          ∧ (sess true false [] none).loggedOut = false)
      ∧ (called office).sessions.rd 29 = none ∧ (called office).printers.rd 29 = .enrolled prn :=
  ⟨called_called _, fun st => ⟨by simp [called, withJob], by simp [called, withJob, State.job, h0]⟩, by decide +kernel,
    by decide +kernel, by decide +kernel, by decide +kernel, by decide +kernel⟩

theorem test_premises_JobEndFinishesTheJob :
    (let s := called (withJob (.suspended 29 true 0) (some h0));
      s.Called 3 5 ∧ s.job h0 = some (job (.suspended 29 true 0)) ∧ (JobState.suspended 29 true 0).active = some (29, true)
        ∧ s.printers.rd 29 = .enrolled { prn with activeJob := some h0 } ∧ (s.tenants.rd 0).isSome = true
        ∧ [(0 : Byte), 0, 2].length = 3 ∧ u8 [0, 0, 2] 2 = 2
        ∧ (∃ v, (s.heard 29 false).finish h0 29 .cancelled = some v) ∧ u8 [0, 0, 3] 2 ≠ 1 ∧ u8 [0, 0, 3] 2 ≠ 2)
      ∧ (present1.sessions.rd 29 = some (sess false false [] (some 90)))
      ∧ (let x := sess true false [h0] none; releasing1.sessions.rd 29 = some x ∧ x.releasing = true
        ∧ x.loggedOut = false ∧ x.release ≠ [] ∧ prn.codes = ⟨0, 0, 0⟩)
      ∧ (sess true true [] none).loggedOut = true ∧ (sess true false [] none).release = []
      ∧ (⟨1, 0, 0⟩ : PerClass Byte) ≠ ⟨0, 0, 0⟩ :=
  ⟨⟨called_called _, by decide +kernel, rfl, by decide +kernel, by decide +kernel, by decide, by decide +kernel,
    Option.isSome_iff_exists.mp (by decide +kernel), by decide +kernel, by decide +kernel⟩, by decide +kernel,
    by decide +kernel, rfl, rfl, by decide⟩

/-! ### Premises: charging, consumables, reorders -/

theorem test_premises_SidesAreChargedAndConsumed :
    (let b := [0, 0, 2, 16, 0, 0, 0, 0, 0, 0, 0, 0, 0, 0];
      printing68.Called 3 5 ∧ b.length = 14 ∧ handleAt b 0 = h0
        ∧ printing68.printers.rd 29 = .enrolled { prn with activeJob := some h0 }
        ∧ (printing68.job h0).map (·.state) = some (.printing 29 false) ∧ u8 b 2 = 2 ∧ u8 b 3 ≠ 0)
      ∧ (called (withJob (.suspended 29 true 0) (some h0))).job h0 = some (job (.suspended 29 true 0))
      ∧ (let s := called (withJob (.granted 29 false (some 60)) (some h0));
        s.printers.rd 29 = .enrolled { prn with activeJob := some h0 }
          ∧ s.job h0 = some (job (.granted 29 false (some 60))))
      ∧ u8 [0, 0, 1, 0] 3 = 0 ∧ (u8 [0, 0, 3] 2 ≠ 1 ∧ u8 [0, 0, 3] 2 ≠ 2)
      ∧ ((printing68.account key).map (·.charged) = some 1996 ∧ (printing68.accounts.map (·.key)).Nodup
        ∧ (printing68.tenants.rd 0).isSome = true)
      ∧ prn.slots[0]? = some toner ∧ (desc.floorPercent < toner.level ∧ toner.remaining ≠ 0)
      ∧ (let s := { office with reorders := [order 1 .raised .normal] };
        s.openReorder 29 0 = some (order 1 .raised .normal) ∧ { toner with level := 10 }.level ≤ desc.floorPercent)
      ∧ ({ office with reorders := [order 1 .sent .urgent] }.openReorder 29 0 = some (order 1 .sent .urgent))
      ∧ office.openReorder 29 0 = none :=
  ⟨⟨called_called _, by decide +kernel⟩, by decide +kernel⟩

theorem test_premises_CartridgeReportsAreTaken :
    (let s := called office;
      s.Called 3 5 ∧ (s.heard 29 false).printers.rd 29 = .enrolled prn ∧ [(0 : Byte), 0, 0, 0, 0].length = 5
        ∧ prn.slots[u8 [0, 0, 0, 0, 0] 0]? = some toner ∧ u32 [0, 0, 0, 0, 0] 1 = 0
        ∧ u32 [0, 0, 0, 0, 1] 1 ≠ 0 ∧ u32 [0, 0, 0, 0, 1] 1 ≠ toner.identity
        ∧ u32 [0, 0, 0, 0, 1] 1 = { toner with identity := 1 }.identity
        ∧ prn.slots[u8 [1, 0, 0, 0, 0] 0]? = none)
      ∧ ({ office with reorders := [order 1 .confirmed .urgent] }.openReorder 29 0 = some (order 1 .confirmed .urgent))
      ∧ office.openReorder 29 0 = none :=
  ⟨⟨called_called _, by decide +kernel, by decide +kernel⟩, by decide +kernel,
    by decide +kernel⟩

theorem test_premises_SupplyOrdersAreWorked :
    (let s := { office with reorders := [order 1 .sent .normal, order 65535 .raised .urgent] };
      s.Ready 2 .takeOrders [] ∧ (s.reorders.map (·.number)).Nodup ∧ s.Ready 2 .confirmOrder [0, 1, 0, 0, 0, 0, 0, 0]
        ∧ u16 [0, 1, 0, 0, 0, 0, 0, 0] 0 ≠ 0 ∧ order 1 .sent .normal ∈ s.reorders
        ∧ (order 1 .sent .normal).number = u16 [0, 1, 0, 0, 0, 0, 0, 0] 0
        ∧ s.Ready 2 .confirmOrder [255, 255, 0, 0, 0, 0, 0, 0] ∧ order 65535 .raised .urgent ∈ s.reorders
        ∧ (order 65535 .raised .urgent).number = u16 [255, 255] 0 ∧ (order 65535 .raised .urgent).state ≠ .sent
        ∧ (∀ r ∈ s.reorders, r.number ≠ u16 [0, 2] 0) ∧ u16 [0, 0] 0 = 0
        ∧ s.Ready 2 .cancelOrder [255, 255] ∧ (order 65535 .raised .urgent).state.isOpen = true)
      ∧ (order 1 .cancelled .normal).state.isOpen = false
      ∧ (office.Ready 2 .setLeadTime [0, 255, 0, 255] ∧ u8 [0, 255, 0, 255] 0 = 0)
      ∧ (office.Ready 2 .setLeadTime [3, 0, 3, 0] ∧ u8 [3, 0, 3, 0] 2 = 3) := by
  unfold State.Ready
  decide +kernel

/-! ### Premises: conditions and callouts -/

theorem test_premises_ConditionsAreRaisedAndCleared :
    ((called office).Called 3 5 ∧ (called office).printers.rd 29 = .enrolled prn
        ∧ u8 [3, 255] 0 = condClassCode .service ∧ u8 [3, 255] 1 = (255 : Byte).toNat
        ∧ u8 [1, 0] 0 = condClassCode .user ∧ u8 [1, 0] 1 = (0 : Byte).toNat
        ∧ u8 [2, 1] 0 = condClassCode .supply ∧ u8 [2, 1] 1 = (1 : Byte).toNat ∧ ¬ ((1 : Byte) = 0)
        ∧ u8 [0, 1] 0 = 0 ∧ 3 < u8 [4, 1] 0)
      ∧ (prn.codes.get .supply = 0 ∧ (lasting .supply none).printers.rd 29
          = .enrolled { prn with codes := prn.codes.set .supply 1, grace := prn.grace.set .supply (some 0) }
        ∧ (prn.codes.set .supply 1).get .supply ≠ 0 ∧ (prn.codes.set .supply 1).get .supply ≠ 2
        ∧ (prn.codes.set .supply 1).get .supply = 1)
      ∧ (∀ x, (lasting .supply x).callouts.rd (calloutNo 29 .supply) = x)
      ∧ (prn.slots[0]? = some toner ∧ (0 : Nat) < 5)
      ∧ ((∀ st, (withJob st (some h0)).printers.rd 29 = .enrolled { prn with activeJob := some h0 }
          ∧ (withJob st (some h0)).job h0 = some (job st))
        ∧ desc.resumable = true ∧ ({ desc with resumable := false } : Descriptor).resumable = false
        ∧ prn.activeJob = none) :=
  ⟨⟨called_called _, by decide +kernel⟩, by decide +kernel, fun x => by simp [lasting], by decide +kernel,
    fun st => ⟨by simp [withJob], by simp [withJob, State.job, h0]⟩, by decide +kernel⟩

/-- The office with a callout at the last number. -/
def calledOut (state : CalloutState) : State := { office with
  callouts := office.callouts.wr 191 (some ⟨1, ⟨0, 0⟩, state, 0, none, none⟩) }

theorem test_premises_CalloutsAreAcknowledgedAndClosed :
    (∀ st, (calledOut st).callouts.rd 191 = some ⟨1, ⟨0, 0⟩, st, 0, none, none⟩)
      ∧ ((calledOut .opened).Ready 0 .acknowledgeCallout [0, 191] ∧ u16 [0, 191] 0 = (191 : CalloutNo).val)
      ∧ (calledOut .cleared).Ready 0 .acknowledgeCallout [0, 191] ∧ (calledOut .cleared).Ready 0 .closeCallout [0, 191]
      ∧ (calledOut .dispatched).Ready 0 .closeCallout [0, 191]
      ∧ (office.Ready 0 .acknowledgeCallout [0, 191] ∧ office.Ready 0 .closeCallout [0, 191]
        ∧ (∀ n : CalloutNo, u16 [0, 191] 0 = n.val → office.callouts.rd n = none) ∧ u16 [0, 191] 0 < 192)
      ∧ (office.Ready 0 .acknowledgeCallout [0, 192] ∧ office.Ready 0 .closeCallout [0, 192]
        ∧ 192 ≤ u16 [0, 192] 0) := by
  refine ⟨fun st => by simp [calledOut], ?_⟩
  unfold State.Ready
  decide +kernel

end Sys2Proof.Tests
end

section
/-! SUPPORT. The requests whose body is one tenant number, and RENEW POOL. -/

namespace Sys2Proof.Machine

variable {s : State} {body : List Byte} {work : TenantNo → State → State × Option Reply}
  {t : TenantNo} {x : Tenant} {n : Nat}

/-! ### Tenant numbers and allowances -/

/-- The fields 1-16 name the tenants 0-15. -/
theorem tenantOf_eq_some (h : n = t.val + 1) : tenantOf n = some t := by
  subst h
  simp [tenantOf, numberBelow]

theorem tenantOf_eq_none (h : n = 0 ∨ 16 < n) : tenantOf n = none := by
  rcases h with h | h
  · simp [tenantOf, h]
  · have hn : ¬ n - 1 < 16 := by omega
    simp [tenantOf, numberBelow, hn]

/-- With nothing charged, only an allowance of 0 is reached (R41). -/
theorem reaches_zero (allowance : Option Nat) : reaches allowance 0 = decide (allowance = some 0) := by
  cases allowance with
  | none => rfl
  | some a => simp [reaches]

/-! ### A body of one tenant number -/

theorem onTenantNumber_named (hlen : body.length = 1) (h : u8 body 0 = t.val + 1) :
    onTenantNumber body s work = work t s := by
  simp [onTenantNumber, hlen, tenantOf_eq_some h]

theorem onTenantNumber_malformed (hlen : body.length = 1) (h : u8 body 0 = 0 ∨ 16 < u8 body 0) :
    onTenantNumber body s work = refuse .malformed s := by
  simp [onTenantNumber, hlen, tenantOf_eq_none h]

/-! ### RENEW POOL's work (R57) -/

theorem workRenewPool_absent (h : s.tenants.rd t = none) : workRenewPool t s = refuse .noSuch s := by
  simp [workRenewPool, h]

theorem workRenewPool_defined (h : s.tenants.rd t = some x) :
    workRenewPool t s = accept [] ((s.setTenant t (some { x with
      poolCharged := 0, poolExhausted := decide (x.poolAllowance = some 0) })).raise .poolRenewed (toTenant t)) := by
  simp [workRenewPool, h, reaches_zero]

theorem exec_renewPool (port : PortNo) (tag : Byte) (body : List Byte) (s : State) :
    exec (.renewPool port tag body) s =
      .next (s.takeRequest .renewPool port tag body fun s => onTenantNumber body s workRenewPool) := rfl

/-- Settles O32: the tenant number's three readings (a DEFINED tenant, an ABSENT one, no tenant's number) are the
three ways the work on the begun state goes, and the request's answer follows the work. -/
theorem poolIsRenewed : Obligations.PoolIsRenewed := by
  intro s port tag body hready hlen
  refine ⟨fun t x hbyte ht => ?_, fun t hbyte ht => ?_, fun hbyte => ?_⟩
  · have hwork := (onTenantNumber_named (s := s.begun port .renewPool tag) hlen hbyte).trans
      (workRenewPool_defined ht)
    rw [exec_renewPool, takeRequest_accept hready hwork]
    rfl
  · have hwork := (onTenantNumber_named (s := s.begun port .renewPool tag) hlen hbyte).trans
      (workRenewPool_absent ht)
    rw [exec_renewPool, takeRequest_refuse hready hwork]
  · have hwork := onTenantNumber_malformed (s := s.begun port .renewPool tag) (work := workRenewPool) hlen hbyte
    rw [exec_renewPool, takeRequest_refuse hready hwork]

end Sys2Proof.Machine
end

section
/-! SUPPORT. The estimate of a job, and the two tests of the check at grant (sections 6.2 and 6.3). -/

namespace Sys2Proof.Machine

variable {a : Account} {t : Tenant} {est : Nat}

/-! ### The estimate (R102, Table 6.1) -/

/-- The mono weight of a job's format, which is the one that applies in Table 6.1's columns without COLOUR. -/
theorem Tariff.weight_mono (w : Tariff) (large : Bool) :
    w.weight large false = if large then w.largeMono else w.mono := by
  cases large with
  | false => rfl
  | true => rfl

theorem Tariff.weight_colour (w : Tariff) (large : Bool) :
    w.weight large true = if large then w.largeColour else w.colour := by
  cases large with
  | false => rfl
  | true => rfl

/-- The weight of the remaining colour sides: at a printer without COLOUR they cost what mono sides do. -/
theorem Tariff.weight_of_printer (w : Tariff) (large colour : Bool) :
    w.weight large colour = if colour then (if large then w.largeColour else w.colour)
      else (if large then w.largeMono else w.mono) := by
  cases colour with
  | false => exact w.weight_mono large
  | true => exact w.weight_colour large

theorem estimate_eq (w : Tariff) (colour : Bool) (j : Job) : estimate w colour j =
    min ((j.declaredMono - j.doneMono) * (if j.large then w.largeMono else w.mono)
      + (j.declaredColour - j.doneColour) * (if colour
        then (if j.large then w.largeColour else w.colour) else (if j.large then w.largeMono else w.mono)))
      16777215 := by
  rw [estimate, w.weight_mono, w.weight_of_printer]
  rfl

/-! ### The account's test and the pool's test (R104, R105) -/

/-- Only an allowance that is present can be exceeded. -/
theorem withinAllowance_eq_false_iff {allowance : Option Nat} {sum : Nat} :
    withinAllowance allowance sum = false ↔ ∃ x, allowance = some x ∧ x < sum := by
  cases allowance with
  | none => simp [withinAllowance]
  | some x => simp [withinAllowance]

/-- The account and the pool are examined by one test, of a flag, an allowance and a reserved amount. -/
theorem grantTest_eq_false_iff {flag : Bool} {allowance : Option Nat} {sum reserved : Nat} :
    (!flag && withinAllowance allowance sum && decide (reserved ≤ unitMax)) = false ↔
      flag = true ∨ (∃ x, allowance = some x ∧ x < sum) ∨ unitMax < reserved := by
  rw [Bool.and_eq_false_iff, Bool.and_eq_false_iff, Bool.not_eq_false', withinAllowance_eq_false_iff,
    decide_eq_false_iff_not, not_le, or_assoc]

theorem Account.passes_eq_false_iff : a.passes est = false ↔
    a.exhausted = true ∨ (∃ x, a.allowance = some x ∧ x < a.charged + a.reserved + est)
      ∨ 16777215 < a.reserved + est :=
  grantTest_eq_false_iff

theorem Tenant.passes_eq_false_iff : t.passes est = false ↔
    t.poolExhausted = true ∨ (∃ x, t.poolAllowance = some x ∧ x < t.poolCharged + t.poolReserved + est)
      ∨ 16777215 < t.poolReserved + est :=
  grantTest_eq_false_iff

/-! ### The order of the two tests -/

/-- The account's failing test decides, whatever the pool's would say. -/
theorem grantRefusal_of_account_fails (ha : a.passes est = false) : grantRefusal a t est = some .quota := by
  simp [grantRefusal, ha]

theorem grantRefusal_of_pool_fails (ha : a.passes est = true) (ht : t.passes est = false) :
    grantRefusal a t est = some .pool := by
  simp [grantRefusal, ha, ht]

theorem grantRefusal_of_both_pass (ha : a.passes est = true) (ht : t.passes est = true) :
    grantRefusal a t est = none := by
  simp [grantRefusal, ha, ht]

/-- Settles O51: each list of three failures is the test's own failing, and the check goes by the account's test
first and by the pool's only when the account's passes. -/
theorem grantIsChecked : Obligations.GrantIsChecked := by
  refine ⟨estimate_eq, fun a t est => ?_⟩
  rw [← Account.passes_eq_false_iff, ← Tenant.passes_eq_false_iff, Bool.not_eq_false, Bool.not_eq_false]
  exact ⟨grantRefusal_of_account_fails,
    fun ha => ⟨grantRefusal_of_pool_fails ha, grantRefusal_of_both_pass ha⟩⟩

end Sys2Proof.Machine
end

section
/-! SUPPORT. The arbiters (section 2.3): what one arbiter's choice reads and writes, that it does not depend on the
other channels, and what is left once all eight have chosen. -/

namespace Sys2Proof.Machine

variable {s u v : State} {c d : ChannelNo} {j k : PositionNo} {p : PrinterNo} {kind m : MarkKind} {x : Position}

/-! ### Positions and channels -/

theorem printerAt_inj : printerAt c k = printerAt d j ↔ c = d ∧ k = j := by
  constructor
  · intro h
    have h' : c.val * 8 + k.val = d.val * 8 + j.val := congrArg Fin.val h
    exact ⟨Fin.ext (by omega), Fin.ext (by omega)⟩
  · rintro ⟨rfl, rfl⟩
    rfl

@[simp] theorem channelOf_printerAt : channelOf (printerAt c k) = c := by
  apply Fin.ext
  simp only [channelOf, printerAt]
  omega

/-- Every printer stands at a position of its channel. -/
theorem exists_printerAt (p : PrinterNo) : ∃ k, p = printerAt (channelOf p) k :=
  ⟨⟨p.val % 8, by omega⟩, Fin.ext (by simp only [printerAt, channelOf]; omega)⟩

/-- In a sorted list of everything, the first of a kind is the one below which nothing is of it. -/
theorem find?_eq_some_of_sorted {α : Type} {l : List α} {R : α → α → Prop} {f : α → Bool} {i : α}
    (sorted : l.Pairwise R) (irrefl : ∀ a, ¬ R a a) (asymm : ∀ a b, R a b → ¬ R b a) (all : ∀ a, a ∈ l) :
    l.find? f = some i ↔ f i = true ∧ ∀ j, R j i → f j = false := by
  rw [List.find?_eq_some_iff_append]
  constructor
  · rintro ⟨hi, before, after, rfl, hbefore⟩
    refine ⟨hi, fun j hj => ?_⟩
    rw [List.pairwise_append, List.pairwise_cons] at sorted
    obtain ⟨-, ⟨hafter, -⟩, -⟩ := sorted
    rcases List.mem_append.mp (all j) with hb | ha
    · simpa using hbefore j hb
    · rcases List.mem_cons.mp ha with rfl | ha
      · exact absurd hj (irrefl _)
      · exact absurd (hafter j ha) (asymm _ _ hj)
  · rintro ⟨hi, hlt⟩
    obtain ⟨before, after, rfl⟩ := List.append_of_mem (all i)
    refine ⟨hi, before, after, rfl, fun j hj => ?_⟩
    rw [List.pairwise_append] at sorted
    obtain ⟨-, -, hcross⟩ := sorted
    simpa using hlt j (hcross j hj i List.mem_cons_self)

theorem find?_finRange_eq_some {n : Nat} {f : Fin n → Bool} {i : Fin n} :
    (List.finRange n).find? f = some i ↔ f i = true ∧ ∀ j, j < i → f j = false :=
  find?_eq_some_of_sorted (List.pairwise_lt_finRange n) (fun _ => lt_irrefl _) (fun _ _ => lt_asymm) List.mem_finRange

/-- A sum over distinct places falls by what falls at one of them. -/
theorem sum_map_add_of_one {α : Type} {l : List α} (hl : l.Nodup) {i : α} (hi : i ∈ l) {F G : α → Nat} {d : Nat}
    (h : G i + d = F i) (hsame : ∀ j, j ≠ i → G j = F j) : (l.map G).sum + d = (l.map F).sum := by
  obtain ⟨before, after, rfl⟩ := List.append_of_mem hi
  have hb : ∀ j ∈ before, G j = F j := fun j hj => hsame j fun e =>
    (List.nodup_append.mp hl).2.2 j hj i List.mem_cons_self e
  have ha : ∀ j ∈ after, G j = F j := fun j hj => hsame j fun e =>
    (List.nodup_cons.mp (List.nodup_append.mp hl).2.1).1 (e ▸ hj)
  rw [List.map_append, List.map_append, List.map_cons, List.map_cons, List.map_congr_left hb,
    List.map_congr_left ha, List.sum_append, List.sum_append, List.sum_cons, List.sum_cons]
  omega

/-! ### Marks -/

/-- The mark kinds, highest first (Table 2.1). -/
def markOrder : List MarkKind := [.revoke, .grant, .endSession, .showList, .describe, .probe]

theorem Position.firstMark_eq : x.firstMark = markOrder.find? x.marked := rfl

theorem mem_markOrder (m : MarkKind) : m ∈ markOrder := by
  cases m <;> simp [markOrder]

theorem Position.marked_withMark (x : Position) (kind m : MarkKind) (b : Bool) :
    (x.withMark kind b).marked m = if m = kind then b else x.marked m := by
  cases kind <;> cases m <;> rfl

theorem Position.firstMark_eq_none : x.firstMark = none ↔ ∀ m, x.marked m = false := by
  rw [Position.firstMark_eq, List.find?_eq_none]
  exact ⟨fun h m => by simpa using h m (mem_markOrder m), fun h m _ => by simp [h m]⟩

theorem Position.firstMark_eq_some : x.firstMark = some kind ↔
    x.marked kind = true ∧ ∀ m : MarkKind, m.code < kind.code → x.marked m = false :=
  find?_eq_some_of_sorted (R := fun a b : MarkKind => a.code < b.code) (by decide) (fun _ => lt_irrefl _)
    (fun _ _ => lt_asymm) mem_markOrder

/-- The number of marks set at a position. -/
def Position.markCount (x : Position) : Nat := (markOrder.map fun m => (x.marked m).toNat).sum

theorem Position.markCount_le : x.markCount ≤ 6 :=
  (List.sum_le_card_nsmul _ 1 (by simp [Bool.toNat_le])).trans (by simp [markOrder])

/-- Clearing a mark that is set leaves one mark fewer. -/
theorem Position.markCount_clear (h : x.marked kind = true) :
    (x.withMark kind false).markCount + 1 = x.markCount :=
  sum_map_add_of_one (by decide) (mem_markOrder kind) (by simp [Position.marked_withMark, h])
    fun m hm => by simp [Position.marked_withMark, hm]

/-- The number of marks set on a channel. -/
def State.markCount (s : State) (c : ChannelNo) : Nat :=
  ((List.finRange 8).map fun k => (s.positions.rd (printerAt c k)).markCount).sum

theorem State.markCount_le : s.markCount c ≤ 48 :=
  (List.sum_le_card_nsmul _ 6 (by simp [Position.markCount_le])).trans (by simp)

/-! ### One arbiter's choice -/

theorem State.chooseMark_eq_some : s.chooseMark c = some (k, kind) ↔
    (∀ j, j < k → ∀ m, (s.positions.rd (printerAt c j)).marked m = false)
      ∧ (s.positions.rd (printerAt c k)).firstMark = some kind := by
  have key : s.chooseMark c = ((List.finRange 8).find? fun k =>
      (s.positions.rd (printerAt c k)).firstMark.isSome).bind fun k =>
        (s.positions.rd (printerAt c k)).firstMark.map fun m => (k, m) := by
    unfold State.chooseMark
    induction List.finRange 8 with
    | nil => rfl
    | cons i l ih =>
      cases h : (s.positions.rd (printerAt c i)).firstMark with
      | none => simp [h, ih]
      | some m => simp [h]
  have first (j : PositionNo) : (s.positions.rd (printerAt c j)).firstMark.isSome = false ↔
      ∀ m, (s.positions.rd (printerAt c j)).marked m = false := by
    rw [← Position.firstMark_eq_none]
    simp
  rw [key, Option.bind_eq_some_iff]
  simp only [find?_finRange_eq_some, Option.map_eq_some_iff, Prod.mk.injEq, first]
  constructor
  · rintro ⟨i, ⟨-, hlt⟩, m, hm, rfl, rfl⟩
    exact ⟨hlt, hm⟩
  · rintro ⟨hlt, hm⟩
    exact ⟨k, ⟨by simp [hm], hlt⟩, kind, hm, rfl, rfl⟩

theorem State.chooseMark_eq_none : s.chooseMark c = none ↔
    ∀ k m, (s.positions.rd (printerAt c k)).marked m = false := by
  simp only [State.chooseMark, List.findSome?_eq_none_iff, List.mem_finRange, forall_const, Option.map_eq_none_iff,
    Position.firstMark_eq_none]

theorem State.chooseLine_eq_none : s.chooseLine c = none ↔ ∀ k, s.serviceLines.rd (printerAt c k) = false := by
  simp [State.chooseLine]

theorem State.clearMark_positions (p : PrinterNo) (kind : MarkKind) : (s.clearMark p kind).positions =
    s.positions.wr p (if kind = .endSession then { (s.positions.rd p).withMark kind false with endReason := none }
      else (s.positions.rd p).withMark kind false) := rfl

theorem State.clearMark_marked (p q : PrinterNo) (kind m : MarkKind) :
    ((s.clearMark p kind).positions.rd q).marked m =
      if p = q ∧ m = kind then false else (s.positions.rd q).marked m := by
  rw [State.clearMark_positions, Table.rd_wr]
  by_cases hq : p = q
  · subst hq
    by_cases hk : kind = .endSession
    · subst hk
      cases m <;> simp [Position.marked, Position.withMark]
    · rw [if_pos rfl, if_neg hk, Position.marked_withMark]
      simp
  · simp [hq]

theorem State.clearMark_markCount (h : (s.positions.rd (printerAt c k)).marked kind = true) :
    (s.clearMark (printerAt c k) kind).markCount c + 1 = s.markCount c := by
  refine sum_map_add_of_one (List.nodup_finRange 8) (List.mem_finRange k) ?_ fun i hi => ?_
  · rw [← Position.markCount_clear h]
    unfold Position.markCount
    simp only [State.clearMark_marked, Position.marked_withMark, true_and]
  · rw [State.clearMark_positions, Table.rd_wr_of_ne]
    exact fun e => hi (printerAt_inj.mp e).2.symm

theorem arbitrate_of_not_idle (h : s.channels.rd c ≠ .idle) (n : Nat) : arbitrate c n s = s := by
  cases n with
  | zero => rfl
  | succ n =>
    rw [arbitrate]
    split
    · next hc => exact absurd hc h
    · rfl

theorem arbitrate_sent {f : RiserRequest} (n : Nat) (hc : s.channels.rd c = .idle)
    (hm : s.chooseMark c = some (k, kind)) (hf : s.buildRequest (printerAt c k) kind = some (f, u)) :
    arbitrate c (n + 1) s = (u.clearMark (printerAt c k) kind).setChannel c
      (.awaitingAnswer k f (s.answerTime (printerAt c k))) := by
  simp only [arbitrate, hc, hm, hf]

theorem arbitrate_dropped (n : Nat) (hc : s.channels.rd c = .idle) (hm : s.chooseMark c = some (k, kind))
    (hf : s.buildRequest (printerAt c k) kind = none) :
    arbitrate c (n + 1) s = arbitrate c n (s.clearMark (printerAt c k) kind) := by
  simp only [arbitrate, hc, hm, hf]

theorem arbitrate_called (n : Nat) (hc : s.channels.rd c = .idle) (hm : s.chooseMark c = none)
    (hl : s.chooseLine c = some k) :
    arbitrate c (n + 1) s = s.setChannel c (.awaitingReport k (s.answerTime (printerAt c k))) := by
  simp only [arbitrate, hc, hm, hl]

theorem arbitrate_resting (n : Nat) (hm : s.chooseMark c = none) (hl : s.chooseLine c = none) :
    arbitrate c n s = s := by
  cases n with
  | zero => rfl
  | succ n =>
    rw [arbitrate]
    split
    · simp only [hm, hl]
    · rfl

/-- What an arbiter's round does, by the four ways it can go. -/
theorem arbitrate_succ_cases (n : Nat) (s : State) (c : ChannelNo) :
    arbitrate c (n + 1) s = s ∧ (s.channels.rd c ≠ .idle ∨ s.chooseMark c = none ∧ s.chooseLine c = none)
      ∨ (∃ k kind f u, s.channels.rd c = .idle ∧ s.chooseMark c = some (k, kind)
          ∧ s.buildRequest (printerAt c k) kind = some (f, u)
          ∧ arbitrate c (n + 1) s = (u.clearMark (printerAt c k) kind).setChannel c
              (.awaitingAnswer k f (s.answerTime (printerAt c k))))
      ∨ (∃ k kind, s.channels.rd c = .idle ∧ s.chooseMark c = some (k, kind)
          ∧ s.buildRequest (printerAt c k) kind = none
          ∧ arbitrate c (n + 1) s = arbitrate c n (s.clearMark (printerAt c k) kind))
      ∨ (∃ k, s.channels.rd c = .idle ∧ s.chooseMark c = none ∧ s.chooseLine c = some k
          ∧ arbitrate c (n + 1) s = s.setChannel c (.awaitingReport k (s.answerTime (printerAt c k)))) := by
  by_cases hc : s.channels.rd c = .idle
  · cases hm : s.chooseMark c with
    | some choice =>
      obtain ⟨k, kind⟩ := choice
      cases hf : s.buildRequest (printerAt c k) kind with
      | some built =>
        obtain ⟨f, u⟩ := built
        exact .inr (.inl ⟨k, kind, f, u, hc, rfl, hf, arbitrate_sent n hc hm hf⟩)
      | none => exact .inr (.inr (.inl ⟨k, kind, hc, rfl, hf, arbitrate_dropped n hc hm hf⟩))
    | none =>
      cases hl : s.chooseLine c with
      | some k => exact .inr (.inr (.inr ⟨k, hc, rfl, rfl, arbitrate_called n hc hm hl⟩))
      | none => exact .inl ⟨arbitrate_resting _ hm hl, .inr ⟨rfl, rfl⟩⟩
  · exact .inl ⟨arbitrate_of_not_idle hc _, .inl hc⟩

/-- The mark that is chosen is set. -/
theorem State.chooseMark_marked (h : s.chooseMark c = some (k, kind)) :
    (s.positions.rd (printerAt c k)).marked kind = true :=
  (Position.firstMark_eq_some.mp (State.chooseMark_eq_some.mp h).2).1

/-- With more rounds than marks, the number of rounds does not matter. -/
theorem arbitrate_rounds {a b : Nat} (ha : s.markCount c < a) (hb : s.markCount c < b) :
    arbitrate c a s = arbitrate c b s := by
  induction a generalizing s b with
  | zero => exact absurd ha (Nat.not_lt_zero _)
  | succ a ih =>
    obtain ⟨b, rfl⟩ : ∃ b', b = b' + 1 := ⟨b - 1, by omega⟩
    obtain ⟨h, hrest⟩ | ⟨k, kind, f, u, hc, hm, hf, h⟩ | ⟨k, kind, hc, hm, hf, h⟩ | ⟨k, hc, hm, hl, h⟩ :=
      arbitrate_succ_cases a s c
    · rw [h]
      obtain hc | ⟨hm, hl⟩ := hrest
      · exact (arbitrate_of_not_idle hc _).symm
      · exact (arbitrate_resting _ hm hl).symm
    · rw [h, arbitrate_sent b hc hm hf]
    · have hcount := State.clearMark_markCount (State.chooseMark_marked hm)
      rw [h, arbitrate_dropped b hc hm hf]
      exact ih (by omega) (by omega)
    · rw [h, arbitrate_called b hc hm hl]

/-- Once an arbiter has had more rounds than there are marks, its channel is in use or has nothing to choose. -/
theorem arbitrate_settles {n : Nat} (h : s.markCount c < n) :
    (arbitrate c n s).channels.rd c ≠ .idle
      ∨ (arbitrate c n s).chooseMark c = none ∧ (arbitrate c n s).chooseLine c = none := by
  induction n generalizing s with
  | zero => exact absurd h (Nat.not_lt_zero _)
  | succ n ih =>
    obtain ⟨h', hrest⟩ | ⟨k, kind, f, u, hc, hm, hf, h'⟩ | ⟨k, kind, hc, hm, hf, h'⟩ | ⟨k, hc, hm, hl, h'⟩ :=
      arbitrate_succ_cases n s c
    · rw [h']
      exact hrest
    · rw [h']
      exact .inl (by simp)
    · have hcount := State.clearMark_markCount (State.chooseMark_marked hm)
      rw [h']
      exact ih (by omega)
    · rw [h']
      exact .inl (by simp)

/-! ### Release lists -/

theorem State.inRelease_iff {h : Handle} :
    s.inRelease h = true ↔ ∃ p x, s.sessions.rd p = some x ∧ h ∈ x.release := by
  simp only [State.inRelease, List.any_eq_true, Table.mem_cells]
  constructor
  · rintro ⟨o, ⟨p, hp⟩, ho⟩
    cases o with
    | none => simp at ho
    | some x => exact ⟨p, x, hp, by simpa using ho⟩
  · rintro ⟨p, x, hp, hx⟩
    exact ⟨some x, ⟨p, hp⟩, by simpa using hx⟩

/-- The release list at a printer, none without a session. -/
def State.releaseAt (s : State) (p : PrinterNo) : Option (List Handle) := (s.sessions.rd p).map (·.release)

theorem State.inRelease_congr (h : ∀ p, u.releaseAt p = s.releaseAt p) (g : Handle) :
    u.inRelease g = s.inRelease g := by
  rw [Bool.eq_iff_iff, State.inRelease_iff, State.inRelease_iff]
  have key (s : State) : (∃ p x, s.sessions.rd p = some x ∧ g ∈ x.release)
      ↔ ∃ p l, s.releaseAt p = some l ∧ g ∈ l := by
    simp [State.releaseAt]
  rw [key, key]
  simp only [h]

/-! ### What an arbiter writes -/

/-- What the arbiters can have done to a state: marks cleared, requests and calls sent, eligible lists built. -/
structure State.ServedTo (s u : State) : Prop where
  rest : ∃ cs ps ss, u = { s with channels := cs, positions := ps, sessions := ss }
  resync : ∀ p, (u.positions.rd p).resync = (s.positions.rd p).resync
  silence : ∀ p, (u.positions.rd p).silence = (s.positions.rd p).silence
  marks : ∀ p m, (u.positions.rd p).marked m = true → (s.positions.rd p).marked m = true
  noSession : ∀ p, s.sessions.rd p = none → u.sessions.rd p = none
  session : ∀ p x, s.sessions.rd p = some x → ∃ y, u.sessions.rd p = some y
    ∧ y = { x with eligible := y.eligible, note := y.note }

theorem State.ServedTo.refl (s : State) : s.ServedTo s where
  rest := ⟨_, _, _, rfl⟩
  resync _ := rfl
  silence _ := rfl
  marks _ _ h := h
  noSession _ h := h
  session _ x h := ⟨x, h, rfl⟩

theorem State.ServedTo.trans (h : s.ServedTo u) (h' : u.ServedTo v) : s.ServedTo v where
  rest := by
    obtain ⟨_, _, _, rfl⟩ := h.rest
    obtain ⟨_, _, _, rfl⟩ := h'.rest
    exact ⟨_, _, _, rfl⟩
  resync p := (h'.resync p).trans (h.resync p)
  silence p := (h'.silence p).trans (h.silence p)
  marks p m hm := h.marks p m (h'.marks p m hm)
  noSession p hp := h'.noSession p (h.noSession p hp)
  session p x hp := by
    obtain ⟨y, hy, e⟩ := h.session p x hp
    obtain ⟨z, hz, e'⟩ := h'.session p y hy
    exact ⟨z, hz, by rw [e', e]⟩

theorem State.ServedTo.releaseAt (h : s.ServedTo u) (p : PrinterNo) : u.releaseAt p = s.releaseAt p := by
  unfold State.releaseAt
  cases hx : s.sessions.rd p with
  | none => rw [h.noSession p hx]
  | some x =>
    obtain ⟨y, hy, e⟩ := h.session p x hx
    rw [hy, e]
    rfl

/-- Building a frame changes nothing, but for a SHOW LIST frame, which builds its session's eligible list (R85). -/
theorem State.buildRequest_state {f : RiserRequest} (h : s.buildRequest p kind = some (f, u)) :
    kind ≠ .showList ∧ u = s
      ∨ kind = .showList ∧ ∃ e x, s.enrolled p = some e ∧ s.sessions.rd p = some x ∧ u = s.buildList p e x := by
  unfold State.buildRequest at h
  cases kind with
  | revoke =>
    cases h
    exact .inl ⟨nofun, rfl⟩
  | grant =>
    dsimp only at h
    split at h
    · cases h
    · split at h
      · cases h
        exact .inl ⟨nofun, rfl⟩
      · cases h
  | endSession =>
    cases h
    exact .inl ⟨nofun, rfl⟩
  | showList =>
    dsimp only at h
    split at h
    · next e x he hx =>
      cases h
      exact .inr ⟨rfl, e, x, he, hx, rfl⟩
    · cases h
  | describe =>
    dsimp only at h
    split at h
    · cases h
      exact .inl ⟨nofun, rfl⟩
    · cases h
  | probe =>
    dsimp only at h
    split at h
    · cases h
      exact .inl ⟨nofun, rfl⟩
    · cases h

theorem State.buildList_sessions (e : Enrolled) (x : Session) : (s.buildList p e x).sessions =
    s.sessions.wr p (some { x with
      eligible := Table.tab fun i => (s.eligibleHandles p e x.account)[i.val]?, note := none }) := rfl

theorem State.buildRequest_servedTo {f : RiserRequest} (h : s.buildRequest p kind = some (f, u)) : s.ServedTo u := by
  obtain ⟨-, rfl⟩ | ⟨-, e, x, -, hx, rfl⟩ := State.buildRequest_state h
  · exact .refl _
  · refine ⟨⟨_, _, _, rfl⟩, fun _ => rfl, fun _ => rfl, fun _ _ h => h, fun q hq => ?_, fun q y hq => ?_⟩
    · rw [State.buildList_sessions, Table.rd_wr_of_ne, hq]
      rintro rfl
      rw [hx] at hq
      cases hq
    · rw [State.buildList_sessions, Table.rd_wr]
      by_cases hpq : p = q
      · subst hpq
        rw [hx] at hq
        cases hq
        exact ⟨_, if_pos rfl, rfl⟩
      · exact ⟨y, by rw [if_neg hpq, hq], rfl⟩

theorem State.clearMark_servedTo (p : PrinterNo) (kind : MarkKind) : s.ServedTo (s.clearMark p kind) where
  rest := ⟨_, _, _, rfl⟩
  resync q := by
    rw [State.clearMark_positions, Table.rd_wr]
    split
    · next h =>
      subst h
      cases kind <;> rfl
    · rfl
  silence q := by
    rw [State.clearMark_positions, Table.rd_wr]
    split
    · next h =>
      subst h
      cases kind <;> rfl
    · rfl
  marks q m h := by
    rw [State.clearMark_marked] at h
    split at h
    · cases h
    · exact h
  noSession _ h := h
  session _ x h := ⟨x, h, rfl⟩

theorem State.setChannel_servedTo (c : ChannelNo) (x : Channel) : s.ServedTo (s.setChannel c x) where
  rest := ⟨_, _, _, rfl⟩
  resync _ := rfl
  silence _ := rfl
  marks _ _ h := h
  noSession _ h := h
  session _ x h := ⟨x, h, rfl⟩

theorem arbitrate_servedTo (c : ChannelNo) (n : Nat) (s : State) : s.ServedTo (arbitrate c n s) := by
  induction n generalizing s with
  | zero => exact .refl s
  | succ n ih =>
    obtain ⟨h, -⟩ | ⟨k, kind, f, u, -, -, hf, h⟩ | ⟨k, kind, -, -, -, h⟩ | ⟨k, -, -, -, h⟩ :=
      arbitrate_succ_cases n s c
    · rw [h]
      exact .refl s
    · rw [h]
      exact ((State.buildRequest_servedTo hf).trans (u.clearMark_servedTo _ _)).trans (State.setChannel_servedTo _ _)
    · rw [h]
      exact (s.clearMark_servedTo _ _).trans (ih _)
    · rw [h]
      exact s.setChannel_servedTo _ _

/-! ### Readings of a job at a printer -/

theorem State.grantedAt_eq_some {h : Handle} {j : Job} {cam : Bool} {timer : Option Nat} :
    s.grantedAt h p = some (j, cam, timer) ↔ s.job h = some j ∧ j.state = .granted p cam timer := by
  unfold State.grantedAt
  cases hj : s.job h with
  | none => simp
  | some i =>
    cases hi : i.state with
    | granted q cam' timer' =>
      by_cases hq : q = p
      · simp only [hi, hq, if_true, Option.some.injEq, Prod.mk.injEq]
        constructor
        · rintro ⟨rfl, rfl, rfl⟩
          exact ⟨rfl, by rw [hi, hq]⟩
        · rintro ⟨rfl, hs⟩
          rw [hi] at hs
          cases hs
          exact ⟨rfl, rfl, rfl⟩
      · simp only [hi, hq, if_false, Option.some.injEq]
        refine ⟨nofun, ?_⟩
        rintro ⟨rfl, hs⟩
        rw [hi] at hs
        cases hs
        exact absurd rfl hq
    | _ =>
      simp only [hi, Option.some.injEq]
      refine ⟨nofun, ?_⟩
      rintro ⟨rfl, hs⟩
      rw [hi] at hs
      cases hs

theorem State.grantedAt_eq_none {h : Handle} :
    s.grantedAt h p = none ↔ ∀ j cam timer, s.job h = some j → j.state ≠ .granted p cam timer := by
  constructor
  · intro hn j cam timer hj hs
    rw [State.grantedAt_eq_some.mpr ⟨hj, hs⟩] at hn
    cases hn
  · intro hn
    cases hg : s.grantedAt h p with
    | none => rfl
    | some g =>
      obtain ⟨j, cam, timer⟩ := g
      obtain ⟨hj, hs⟩ := State.grantedAt_eq_some.mp hg
      exact absurd hs (hn j cam timer hj)

/-- The GRANTED active job of a printer, if it has one. -/
theorem State.grantedActive_eq_none :
    (∀ h j cam timer, s.activeJob p = some h → s.job h = some j → j.state ≠ .granted p cam timer) ↔
      ∀ h, s.activeJob p = some h → s.grantedAt h p = none := by
  simp only [State.grantedAt_eq_none]
  exact ⟨fun H h ha j cam timer hj => H h j cam timer ha hj, fun H h j cam timer ha hj => H h ha j cam timer hj⟩

theorem State.activeAt_eq_some {h : Handle} {j : Job} :
    s.activeAt h p = some j ↔ s.job h = some j ∧ ∃ cam, j.state.active = some (p, cam) := by
  unfold State.activeAt
  cases hj : s.job h with
  | none => simp
  | some i =>
    cases ha : i.state.active with
    | none =>
      simp only [ha, Option.some.injEq]
      refine ⟨nofun, ?_⟩
      rintro ⟨rfl, cam, hs⟩
      rw [ha] at hs
      cases hs
    | some q =>
      obtain ⟨q, cam⟩ := q
      simp only [ha, Option.some.injEq]
      split
      · next hq =>
        subst hq
        exact ⟨fun e => by cases e; exact ⟨rfl, cam, ha⟩, fun ⟨e, _⟩ => by rw [e]⟩
      · next hq =>
        refine ⟨nofun, ?_⟩
        rintro ⟨rfl, cam', hs⟩
        rw [ha] at hs
        cases hs
        exact absurd rfl hq

theorem State.activeAt_eq_none {h : Handle} :
    s.activeAt h p = none ↔ ∀ j cam, s.job h = some j → j.state.active ≠ some (p, cam) := by
  constructor
  · intro hn j cam hj ha
    rw [State.activeAt_eq_some.mpr ⟨hj, cam, ha⟩] at hn
    cases hn
  · intro hn
    cases ha : s.activeAt h p with
    | none => rfl
    | some j =>
      obtain ⟨hj, cam, ha⟩ := State.activeAt_eq_some.mp ha
      exact absurd ha (hn j cam hj)

/-! ### The frames an arbiter sends -/

theorem State.buildRequest_grant {h : Handle} {i : Job} {cam : Bool} {timer : Option Nat}
    (ha : s.activeJob p = some h) (hj : s.job h = some i) (hs : i.state = .granted p cam timer) :
    s.buildRequest p .grant = some (.grant h i.spool i.owner.tenant (i.doneMono + i.doneColour) cam, s) := by
  simp only [State.buildRequest, ha, State.grantedAt_eq_some.mpr ⟨hj, hs⟩, Job.resumeFrom]

theorem State.buildRequest_endSession : s.buildRequest p .endSession =
    some (.endSession (s.positions.rd p).endReason (match s.sessions.rd p with
      | none => .none
      | some x => if x.releasing then .releasing else .showing), s) := by
  cases h : s.sessions.rd p <;> simp only [State.buildRequest, sessionState, h]

theorem State.buildRequest_showList {e : Enrolled} {y : Session} (he : s.enrolled p = some e)
    (hy : s.sessions.rd p = some y) : s.buildRequest p .showList =
      some (.showList (if y.releasing then .releasing else .showing)
        (Table.tab fun i => ((s.eligibleHandles p e y.account)[i.val]?.bind s.job).map fun j =>
          (j.tag, (j.declaredMono - j.doneMono) + (j.declaredColour - j.doneColour))) y.note, s.buildList p e y) := by
  have hlist : (Table.tab fun i : Fin 8 => (s.eligibleHandles p e y.account)[i.val]?).map (s.buildList p e y).listEntry
      = Table.tab fun i => ((s.eligibleHandles p e y.account)[i.val]?.bind s.job).map fun j =>
          (j.tag, (j.declaredMono - j.doneMono) + (j.declaredColour - j.doneColour)) :=
    Table.ext_rd fun i => by
      rw [Table.rd_map, Table.rd_tab, Table.rd_tab]
      rfl
  simp only [State.buildRequest, he, hy, State.buildList_sessions, Table.rd_wr_self, Option.map_some,
    Option.getD_some, hlist, sessionState]

theorem State.buildRequest_describe {sh : Sharing} {who : Option (PortNo × Byte)}
    (h : s.printers.rd p = .enrolling sh who) : s.buildRequest p .describe = some (.describe, s) := by
  simp only [State.buildRequest, h]

theorem State.buildRequest_probe (h : (s.enrolled p).isSome = true) :
    s.buildRequest p .probe = some (.probe (s.positions.rd p).resync, s) := by
  simp only [State.buildRequest, h, if_true]

/-- A mark whose matter has gone is no frame (R24, R85, R92). -/
theorem State.buildRequest_gone
    (h : kind = .grant ∧ (∀ h j cam timer, s.activeJob p = some h → s.job h = some j →
          j.state ≠ .granted p cam timer)
        ∨ kind = .showList ∧ (s.sessions.rd p = none ∨ s.enrolled p = none)
        ∨ kind = .describe ∧ (∀ sh who, s.printers.rd p ≠ .enrolling sh who)
        ∨ kind = .probe ∧ s.enrolled p = none) :
    kind ≠ .endSession ∧ s.buildRequest p kind = none := by
  obtain ⟨rfl, h⟩ | ⟨rfl, h⟩ | ⟨rfl, h⟩ | ⟨rfl, h⟩ := h
  · refine ⟨nofun, ?_⟩
    rw [State.grantedActive_eq_none] at h
    cases ha : s.activeJob p with
    | none => simp only [State.buildRequest, ha]
    | some g => simp only [State.buildRequest, ha, h g ha]
  · refine ⟨nofun, ?_⟩
    obtain h | h := h
    · cases he : s.enrolled p <;> simp only [State.buildRequest, h, he]
    · simp only [State.buildRequest, h]
  · refine ⟨nofun, ?_⟩
    cases hp : s.printers.rd p with
    | enrolling sh who => exact absurd hp (h sh who)
    | absent => simp only [State.buildRequest, hp]
    | enrolled e => simp only [State.buildRequest, hp]
  · exact ⟨nofun, by simp [State.buildRequest, h]⟩

/-! ### One arbiter does not see the others -/

/-- Two states that an arbiter of channel `c` cannot tell apart. -/
structure State.SameAt (c : ChannelNo) (s u : State) : Prop where
  rest : ∃ cs ps ss, u = { s with channels := cs, positions := ps, sessions := ss }
  channel : u.channels.rd c = s.channels.rd c
  position : ∀ k, u.positions.rd (printerAt c k) = s.positions.rd (printerAt c k)
  session : ∀ k, u.sessions.rd (printerAt c k) = s.sessions.rd (printerAt c k)
  release : ∀ p, u.releaseAt p = s.releaseAt p

theorem State.SameAt.refl (s : State) : s.SameAt c s :=
  ⟨⟨_, _, _, rfl⟩, rfl, fun _ => rfl, fun _ => rfl, fun _ => rfl⟩

theorem State.SameAt.trans (h : s.SameAt c u) (h' : u.SameAt c v) : s.SameAt c v where
  rest := by
    obtain ⟨_, _, _, rfl⟩ := h.rest
    obtain ⟨_, _, _, rfl⟩ := h'.rest
    exact ⟨_, _, _, rfl⟩
  channel := h'.channel.trans h.channel
  position k := (h'.position k).trans (h.position k)
  session k := (h'.session k).trans (h.session k)
  release p := (h'.release p).trans (h.release p)

theorem State.SameAt.chooseMark (h : s.SameAt c u) : u.chooseMark c = s.chooseMark c := by
  simp only [State.chooseMark, h.position]

theorem State.SameAt.chooseLine (h : s.SameAt c u) : u.chooseLine c = s.chooseLine c := by
  obtain ⟨_, _, _, rfl⟩ := h.rest
  rfl

theorem State.SameAt.answerTime (h : s.SameAt c u) (p : PrinterNo) : u.answerTime p = s.answerTime p := by
  obtain ⟨_, _, _, rfl⟩ := h.rest
  rfl

theorem State.SameAt.eligibleHandles (h : s.SameAt c u) (p : PrinterNo) (e : Enrolled) (key : AccountKey) :
    u.eligibleHandles p e key = s.eligibleHandles p e key := by
  have hq : u.qualifies p e key = s.qualifies p e key := by
    funext n
    unfold State.qualifies
    rw [State.inRelease_congr h.release]
    obtain ⟨_, _, _, rfl⟩ := h.rest
    rfl
  unfold State.eligibleHandles
  rw [hq]
  obtain ⟨_, _, _, rfl⟩ := h.rest
  rfl

theorem State.SameAt.enrolled (h : s.SameAt c u) (p : PrinterNo) : u.enrolled p = s.enrolled p := by
  obtain ⟨_, _, _, rfl⟩ := h.rest
  rfl

theorem State.SameAt.job (h : s.SameAt c u) : u.job = s.job := by
  obtain ⟨_, _, _, rfl⟩ := h.rest
  rfl

/-- Eligible lists built at one position keep two states alike. -/
theorem State.SameAt.buildList (h : s.SameAt c u) (k : PositionNo) (e : Enrolled) (y : Session) :
    (s.buildList (printerAt c k) e y).SameAt c (u.buildList (printerAt c k) e y) where
  rest := by
    obtain ⟨_, _, _, rfl⟩ := h.rest
    exact ⟨_, _, _, rfl⟩
  channel := h.channel
  position := h.position
  session i := by
    simp only [State.buildList_sessions, Table.rd_wr, h.eligibleHandles, h.session]
  release q := by
    have hr := h.release q
    simp only [State.releaseAt] at hr
    simp only [State.releaseAt, State.buildList_sessions, Table.rd_wr]
    split
    · rfl
    · exact hr

theorem State.SameAt.setChannel (h : s.SameAt c u) (x : Channel) :
    (s.setChannel c x).SameAt c (u.setChannel c x) where
  rest := by
    obtain ⟨_, _, _, rfl⟩ := h.rest
    exact ⟨_, _, _, rfl⟩
  channel := by simp
  position := h.position
  session := h.session
  release := h.release

theorem State.SameAt.clearMark (h : s.SameAt c u) (k : PositionNo) (kind : MarkKind) :
    (s.clearMark (printerAt c k) kind).SameAt c (u.clearMark (printerAt c k) kind) where
  rest := by
    obtain ⟨_, _, _, rfl⟩ := h.rest
    exact ⟨_, _, _, rfl⟩
  channel := h.channel
  position i := by
    simp only [State.clearMark_positions, Table.rd_wr, h.position]
  session := h.session
  release := h.release

/-- The same frame is built from states an arbiter cannot tell apart. -/
theorem State.SameAt.buildRequest (h : s.SameAt c u) (k : PositionNo) (kind : MarkKind) :
    (s.buildRequest (printerAt c k) kind = none ∧ u.buildRequest (printerAt c k) kind = none)
      ∨ ∃ f s' u', s.buildRequest (printerAt c k) kind = some (f, s')
        ∧ u.buildRequest (printerAt c k) kind = some (f, u') ∧ s'.SameAt c u' := by
  have ha : u.activeJob (printerAt c k) = s.activeJob (printerAt c k) := by
    unfold State.activeJob
    rw [h.enrolled]
  cases kind with
  | revoke => exact .inr ⟨_, _, _, rfl, by simp only [State.buildRequest, ha], h⟩
  | grant =>
    have hg (g : Handle) : u.grantedAt g (printerAt c k) = s.grantedAt g (printerAt c k) := by
      unfold State.grantedAt
      rw [h.job]
    simp only [State.buildRequest, ha, hg]
    cases s.activeJob (printerAt c k) with
    | none => exact .inl ⟨rfl, rfl⟩
    | some g =>
      cases hj : s.grantedAt g (printerAt c k) with
      | none => simp [hj]
      | some j =>
        simp only [hj]
        exact .inr ⟨_, _, _, rfl, rfl, h⟩
  | endSession =>
    exact .inr ⟨_, _, _, rfl, by simp only [State.buildRequest, h.position, h.session], h⟩
  | showList =>
    by_cases hgone : s.sessions.rd (printerAt c k) = none ∨ s.enrolled (printerAt c k) = none
    · have hgone' : u.sessions.rd (printerAt c k) = none ∨ u.enrolled (printerAt c k) = none := by
        rwa [h.session, h.enrolled]
      exact .inl ⟨(State.buildRequest_gone (.inr (.inl ⟨rfl, hgone⟩))).2,
        (State.buildRequest_gone (.inr (.inl ⟨rfl, hgone'⟩))).2⟩
    · obtain ⟨y, hy⟩ := Option.ne_none_iff_exists'.mp fun e => hgone (.inl e)
      obtain ⟨e, he⟩ := Option.ne_none_iff_exists'.mp fun e => hgone (.inr e)
      have hu := State.buildRequest_showList ((h.enrolled _).trans he) ((h.session _).trans hy)
      rw [h.eligibleHandles, h.job] at hu
      exact .inr ⟨_, _, _, State.buildRequest_showList he hy, hu, h.buildList k e y⟩
  | describe =>
    have hp : u.printers = s.printers := by
      obtain ⟨_, _, _, rfl⟩ := h.rest
      rfl
    simp only [State.buildRequest, hp]
    cases s.printers.rd (printerAt c k) with
    | absent => exact .inl ⟨rfl, rfl⟩
    | enrolling sh who => exact .inr ⟨_, _, _, rfl, rfl, h⟩
    | enrolled e => exact .inl ⟨rfl, rfl⟩
  | probe =>
    simp only [State.buildRequest, h.enrolled, h.position]
    cases s.enrolled (printerAt c k) with
    | none => exact .inl ⟨rfl, rfl⟩
    | some e => exact .inr ⟨_, _, _, rfl, rfl, h⟩

theorem State.SameAt.arbitrate (h : s.SameAt c u) (n : Nat) :
    (Machine.arbitrate c n s).SameAt c (Machine.arbitrate c n u) := by
  induction n generalizing s u with
  | zero => exact h
  | succ n ih =>
    obtain ⟨h', hrest⟩ | ⟨k, kind, f, s', hc, hm, hf, h'⟩ | ⟨k, kind, hc, hm, hf, h'⟩ | ⟨k, hc, hm, hl, h'⟩ :=
      arbitrate_succ_cases n s c
    · rw [h']
      obtain hc | ⟨hm, hl⟩ := hrest
      · rwa [arbitrate_of_not_idle (h.channel ▸ hc)]
      · rwa [arbitrate_resting _ (h.chooseMark.trans hm) (h.chooseLine.trans hl)]
    · obtain ⟨hn, -⟩ | ⟨f', s1, u1, hs, hu, hsu⟩ := h.buildRequest k kind
      · rw [hf] at hn
        cases hn
      · rw [hf] at hs
        cases hs
        rw [h', arbitrate_sent n (h.channel.trans hc) (h.chooseMark.trans hm) hu, h.answerTime]
        exact (hsu.clearMark k kind).setChannel _
    · obtain ⟨-, hu⟩ | ⟨f', s1, u1, hs, -, -⟩ := h.buildRequest k kind
      · rw [h', arbitrate_dropped n (h.channel.trans hc) (h.chooseMark.trans hm) hu]
        exact ih (h.clearMark k kind)
      · rw [hf] at hs
        cases hs
    · rw [h', arbitrate_called n (h.channel.trans hc) (h.chooseMark.trans hm) (h.chooseLine.trans hl), h.answerTime]
      exact h.setChannel _

/-- An arbiter writes nothing that the arbiter of another channel reads. -/
theorem arbitrate_sameAt_other (hd : d ≠ c) (n : Nat) (s : State) : s.SameAt c (arbitrate d n s) := by
  have apart (i k : PositionNo) : printerAt d i ≠ printerAt c k := fun h => hd (printerAt_inj.mp h).1
  have clear (s : State) (i : PositionNo) (kind : MarkKind) : s.SameAt c (s.clearMark (printerAt d i) kind) :=
    ⟨⟨_, _, _, rfl⟩, rfl, fun k => by rw [State.clearMark_positions, Table.rd_wr_of_ne _ _ (apart i k)],
      fun _ => rfl, fun _ => rfl⟩
  have channel (s : State) (x : Channel) : s.SameAt c (s.setChannel d x) :=
    ⟨⟨_, _, _, rfl⟩, by simp [Table.rd_wr_of_ne _ _ hd], fun _ => rfl, fun _ => rfl, fun _ => rfl⟩
  induction n generalizing s with
  | zero => exact .refl s
  | succ n ih =>
    obtain ⟨h, -⟩ | ⟨i, kind, f, u, -, -, hf, h⟩ | ⟨i, kind, -, -, -, h⟩ | ⟨i, -, -, -, h⟩ :=
      arbitrate_succ_cases n s d
    · rw [h]
      exact .refl s
    · rw [h]
      have built : s.SameAt c u := by
        refine ⟨(State.buildRequest_servedTo hf).rest, ?_, ?_, ?_, (State.buildRequest_servedTo hf).releaseAt⟩ <;>
          obtain ⟨-, rfl⟩ | ⟨-, e, x, -, -, rfl⟩ := State.buildRequest_state hf
        · rfl
        · rfl
        · exact fun _ => rfl
        · exact fun _ => rfl
        · exact fun _ => rfl
        · exact fun k => by rw [State.buildList_sessions, Table.rd_wr_of_ne _ _ (apart i k)]
      exact (built.trans (clear u i kind)).trans (channel _ _)
    · rw [h]
      exact (clear s i kind).trans (ih _)
    · rw [h]
      exact channel s _

/-! ### All the arbiters -/

theorem serveChannels_servedTo (s : State) : s.ServedTo s.serveChannels := by
  unfold State.serveChannels
  induction List.finRange 8 generalizing s with
  | nil => exact .refl s
  | cons c l ih => exact (arbitrate_servedTo c _ s).trans (ih _)

/-- What an arbiter does at its own channel is what all of them do there. -/
theorem serveChannels_sameAt (s : State) (c : ChannelNo) :
    (arbitrate c arbiterRounds s).SameAt c s.serveChannels := by
  have others (l : List ChannelNo) (h : c ∉ l) (s : State) :
      s.SameAt c (l.foldl (fun s c => arbitrate c arbiterRounds s) s) := by
    induction l generalizing s with
    | nil => exact .refl s
    | cons d l ih =>
      rw [List.mem_cons, not_or] at h
      exact (arbitrate_sameAt_other (Ne.symm h.1) _ s).trans (ih h.2 _)
  obtain ⟨before, after, hl⟩ := List.append_of_mem (List.mem_finRange c)
  have nodup := List.nodup_finRange 8
  rw [hl] at nodup
  have hb : c ∉ before := fun hc => (List.nodup_append.mp nodup).2.2 c hc c List.mem_cons_self rfl
  have ha : c ∉ after := (List.nodup_cons.mp (List.nodup_append.mp nodup).2.1).1
  unfold State.serveChannels
  rw [hl, List.foldl_append, List.foldl_cons]
  exact ((others before hb s).arbitrate arbiterRounds).trans (others after ha _)

/-- The arbiters leave nothing to choose. -/
theorem serveChannels_quiet (s : State) : s.serveChannels.Quiet := by
  intro c k hidle
  have hsame := serveChannels_sameAt s c
  have hcount : s.markCount c < arbiterRounds := Nat.lt_succ_of_le State.markCount_le
  obtain hc | ⟨hm, hl⟩ := arbitrate_settles hcount
  · exact absurd (hsame.channel ▸ hidle) hc
  · exact ⟨fun m => State.chooseMark_eq_none.mp (hsame.chooseMark.trans hm) k m,
      State.chooseLine_eq_none.mp (hsame.chooseLine.trans hl) k⟩

/-- Two states that differ in what the arbiters write alone are equal when no arbiter tells them apart. -/
theorem State.eq_of_sameAt (h : ∀ c, s.SameAt c u) : u = s := by
  obtain ⟨cs, ps, ss, rfl⟩ := (h 0).rest
  have hp : ps = s.positions := Table.ext_rd fun p => by
    obtain ⟨k, hk⟩ := exists_printerAt p
    rw [hk]
    exact (h (channelOf p)).position k
  have hs : ss = s.sessions := Table.ext_rd fun p => by
    obtain ⟨k, hk⟩ := exists_printerAt p
    rw [hk]
    exact (h (channelOf p)).session k
  have hc : cs = s.channels := Table.ext_rd fun c => (h c).channel
  subst hp hs hc
  rfl

theorem serveChannels_resting (h : s.channels.rd c ≠ .idle ∨ s.chooseMark c = none ∧ s.chooseLine c = none) :
    s.SameAt c s.serveChannels := by
  have hsame := serveChannels_sameAt s c
  obtain h | ⟨hm, hl⟩ := h
  · rwa [arbitrate_of_not_idle h] at hsame
  · rwa [arbitrate_resting _ hm hl] at hsame

/-- With nothing to choose, the arbiters change nothing. -/
theorem State.Quiet.serveChannels_eq (h : s.Quiet) : s.serveChannels = s := by
  refine State.eq_of_sameAt fun c => serveChannels_resting ?_
  by_cases hc : s.channels.rd c = .idle
  · exact .inr ⟨State.chooseMark_eq_none.mpr fun k => (h c k hc).1,
      State.chooseLine_eq_none.mpr fun k => (h c k hc).2⟩
  · exact .inl hc

/-! ### What is sent, dropped and called -/

/-- A mark that is chosen and sent: what stands at its channel once the arbiters have chosen. -/
theorem serveChannels_sent {f : RiserRequest} (hc : s.channels.rd c = .idle)
    (hm : s.chooseMark c = some (k, kind)) (hf : s.buildRequest (printerAt c k) kind = some (f, u)) :
    s.serveChannels.channels.rd c = .awaitingAnswer k f (s.answerTime (printerAt c k))
      ∧ (∀ j, s.serveChannels.positions.rd (printerAt c j)
          = (s.clearMark (printerAt c k) kind).positions.rd (printerAt c j))
      ∧ ∀ j, s.serveChannels.sessions.rd (printerAt c j) = u.sessions.rd (printerAt c j) := by
  have hsame := serveChannels_sameAt s c
  rw [arbiterRounds, arbitrate_sent _ hc hm hf] at hsame
  refine ⟨by simp [hsame.channel], fun j => ?_, fun j => ?_⟩
  · have hpos : u.positions = s.positions := by
      obtain ⟨-, rfl⟩ | ⟨-, e, x, -, -, rfl⟩ := State.buildRequest_state hf <;> rfl
    rw [hsame.position j, State.setChannel_positions, State.clearMark_positions, State.clearMark_positions, hpos]
  · rw [hsame.session j]
    rfl

/-- A dropped mark: the choice is made as if it had not been set (R24). -/
theorem serveChannels_dropped (hc : s.channels.rd c = .idle) (hm : s.chooseMark c = some (k, kind))
    (hf : s.buildRequest (printerAt c k) kind = none) :
    s.serveChannels = (s.clearMark (printerAt c k) kind).serveChannels := by
  refine State.eq_of_sameAt fun d => ?_
  have hs := serveChannels_sameAt s d
  have hu := serveChannels_sameAt (s.clearMark (printerAt c k) kind) d
  have symm {a b : State} (h : a.SameAt d b) : b.SameAt d a := by
    obtain ⟨⟨_, _, _, rfl⟩, h1, h2, h3, h4⟩ := h
    exact ⟨⟨_, _, _, rfl⟩, h1.symm, fun k => (h2 k).symm, fun k => (h3 k).symm, fun p => (h4 p).symm⟩
  by_cases hd : c = d
  · subst hd
    have hcount := State.clearMark_markCount (State.chooseMark_marked hm)
    have hle := s.markCount_le (c := c)
    have hrounds : arbitrate c arbiterRounds s = arbitrate c arbiterRounds (s.clearMark (printerAt c k) kind) := by
      rw [arbiterRounds, arbitrate_dropped _ hc hm hf]
      exact arbitrate_rounds (by omega) (by omega)
    rw [hrounds] at hs
    exact (symm hu).trans hs
  · have hclear : s.SameAt d (s.clearMark (printerAt c k) kind) :=
      ⟨⟨_, _, _, rfl⟩, rfl, fun i => by
        rw [State.clearMark_positions, Table.rd_wr_of_ne]
        exact fun e => hd (printerAt_inj.mp e).1, fun _ => rfl, fun _ => rfl⟩
    exact (symm hu).trans ((symm (hclear.arbitrate _)).trans hs)

theorem serveChannels_called (hc : s.channels.rd c = .idle) (hm : s.chooseMark c = none)
    (hl : s.chooseLine c = some k) :
    (s.setChannel c (.awaitingReport k (s.answerTime (printerAt c k)))).SameAt c s.serveChannels := by
  have hsame := serveChannels_sameAt s c
  rwa [arbiterRounds, arbitrate_called _ hc hm hl] at hsame

/-- Settles O45: what the arbiters write is `serveChannels_servedTo`; what one of them does at its channel is what all
of them do there (`serveChannels_sameAt`), so each clause is one way that its own round can go. -/
theorem arbiterServesInOrder : Obligations.ArbiterServesInOrder := by
  refine ⟨fun s => ?_, fun s p => ?_, fun s h => h.serveChannels_eq, fun s c h => ?_, ?_, ?_, ?_, fun s c k => rfl⟩
  · obtain ⟨_, _, _, h⟩ := (serveChannels_servedTo s).rest
    rw [h]
  · have h := serveChannels_servedTo s
    exact ⟨h.resync p, h.silence p, h.marks p, h.noSession p, h.session p⟩
  · have hsame : s.SameAt c s.serveChannels := serveChannels_resting <| h.imp_right fun h =>
      ⟨State.chooseMark_eq_none.mpr fun k => (h k).1, State.chooseLine_eq_none.mpr fun k => (h k).2⟩
    exact ⟨hsame.channel, fun k => ⟨hsame.position k, hsame.session k⟩⟩
  · intro s c k kind frame hc hlow hmark hhigh hframe
    have hm : s.chooseMark c = some (k, kind) :=
      State.chooseMark_eq_some.mpr ⟨hlow, Position.firstMark_eq_some.mpr ⟨hmark, hhigh⟩⟩
    obtain ⟨u, hf⟩ : ∃ u, s.buildRequest (printerAt c k) kind = some (frame, u) := by
      obtain ⟨rfl, rfl⟩ | ⟨rfl, h, j, cam, timer, ha, hj, hs, rfl⟩ | ⟨rfl, rfl⟩ | ⟨rfl, e, x, he, hx, rfl⟩
        | ⟨rfl, ⟨sh, who, hp⟩, rfl⟩ | ⟨rfl, he, rfl⟩ := hframe
      · exact ⟨s, rfl⟩
      · exact ⟨s, State.buildRequest_grant ha hj hs⟩
      · exact ⟨s, State.buildRequest_endSession⟩
      · exact ⟨_, State.buildRequest_showList (State.enrolled_eq_some.mpr he) hx⟩
      · exact ⟨s, State.buildRequest_describe hp⟩
      · exact ⟨s, State.buildRequest_probe he⟩
    obtain ⟨hchan, hpos, hses⟩ := serveChannels_sent hc hm hf
    have apart {i : PositionNo} (hi : i ≠ k) : printerAt c k ≠ printerAt c i := fun e => hi (printerAt_inj.mp e).2.symm
    refine ⟨?_, fun m => ?_, ?_, fun hk e x he hx => ?_, fun i => ⟨fun hi => ?_, ?_⟩⟩
    · rw [hchan, State.answerTime]
      cases s.enrolled (printerAt c k) <;> rfl
    · rw [hpos, State.clearMark_marked]
      simp only [true_and]
    · rw [hpos, State.clearMark_positions, Table.rd_wr_self]
      cases kind <;> rfl
    · subst hk
      rw [State.buildRequest_showList (State.enrolled_eq_some.mpr he) hx] at hf
      cases hf
      rw [hses, State.buildList_sessions, Table.rd_wr_self]
    · rw [hpos, State.clearMark_positions, Table.rd_wr_of_ne _ _ (apart hi)]
    · intro hi
      rw [hses]
      obtain ⟨-, rfl⟩ | ⟨hk, e, x, he, hx, rfl⟩ := State.buildRequest_state hf
      · rfl
      · rw [State.buildList_sessions, Table.rd_wr_of_ne _ _ (apart (hi.resolve_right fun h => h hk))]
  · intro s c k kind hc hlow hmark hhigh hgone
    have hm : s.chooseMark c = some (k, kind) :=
      State.chooseMark_eq_some.mpr ⟨hlow, Position.firstMark_eq_some.mpr ⟨hmark, hhigh⟩⟩
    obtain ⟨hk, hf⟩ := State.buildRequest_gone hgone
    rw [serveChannels_dropped hc hm hf]
    simp only [State.clearMark, if_neg hk]
    rfl
  · intro s c k hc hmarks hline hlow
    have hsame := serveChannels_called hc (State.chooseMark_eq_none.mpr hmarks)
      (find?_finRange_eq_some.mpr ⟨hline, hlow⟩)
    refine ⟨?_, fun j => ⟨hsame.position j, hsame.session j⟩⟩
    rw [hsame.channel, State.setChannel_channels, Table.rd_wr_self, State.answerTime]
    cases s.enrolled (printerAt c k) <;> rfl

end Sys2Proof.Machine
end

section
/-! SUPPORT. What every command keeps, as one preorder on states: each invariant of Safety.lean that holds before holds
after. The shared operations that write one block alone are shown to keep it here. -/

namespace Sys2Proof.Machine

variable {s t u : State} {p : PrinterNo} {cls : CondClass}

/-- The invariants of Safety.lean hold in `t` where they hold in `s`, and the queue is left as it is. The reorder list
needs the slots' invariant, and the reservations the books', to be kept. -/
structure State.Keeps (s t : State) : Prop where
  pending : t.pending = s.pending
  clock : s.ClockInRange → t.ClockInRange
  ports : s.PortsBound → t.PortsBound
  lines : s.LinesFollow → t.LinesFollow
  served : s.SessionsServed → t.SessionsServed
  slots : s.SlotsDerived → t.SlotsDerived
  reorders : s.SlotsDerived → s.ReordersKept → t.ReordersKept
  books : s.BooksKept → t.BooksKept
  reserved : s.BooksKept → s.ReservationsAgree → t.ReservationsAgree

theorem State.Keeps.refl (s : State) : s.Keeps s :=
  ⟨rfl, id, id, id, id, id, fun _ => id, id, fun _ => id⟩

theorem State.Keeps.trans (h : s.Keeps t) (h' : t.Keeps u) : s.Keeps u where
  pending := h'.pending.trans h.pending
  clock i := h'.clock (h.clock i)
  ports i := h'.ports (h.ports i)
  lines i := h'.lines (h.lines i)
  served i := h'.served (h.served i)
  slots i := h'.slots (h.slots i)
  reorders i k := h'.reorders (h.slots i) (h.reorders i k)
  books i := h'.books (h.books i)
  reserved i k := h'.reserved (h.books i) (h.reserved i k)

theorem State.Keeps.foldl {α : Type} {f : State → α → State} (h : ∀ (s : State) a, s.Keeps (f s a)) (l : List α) (s : State) :
    s.Keeps (l.foldl f s) := by
  induction l generalizing s with
  | nil => exact .refl s
  | cons a l ih => exact (h s a).trans (ih _)

/-- No invariant reads the riser channels, the due marks, the draws or the two settings. -/
theorem State.Keeps.floor (cs : Table 8 Channel) (ps : Table 64 Position) (ls : Table 64 Bool)
    (ras : Table 8 (Option (PositionNo × ReportAnswer))) (md dd dr ld sd : Nat) (lm : Clock) :
    s.Keeps { s with
      channels := cs, positions := ps, serviceLines := ls, reportAnswers := ras, minuteMarksDue := md
      dayClosesDue := dd, lastMinuteMark := lm, draws := dr, leadDays := ld, safetyDays := sd } :=
  ⟨rfl, id, id, id, id, id, fun _ => id, id, fun _ => id⟩

/-! ### The port table -/

theorem State.Keeps.ofPorts {ps : Table 8 Port} (h : s.PortsBound → State.PortsBound { s with ports := ps }) :
    s.Keeps { s with ports := ps } :=
  ⟨rfl, id, h, id, id, id, fun _ => id, id, fun _ => id⟩

theorem State.Keeps.ofRoles {ps : Table 8 Port} (h : ∀ n, (ps.rd n).role = (s.ports.rd n).role) :
    s.Keeps { s with ports := ps } :=
  .ofPorts fun ⟨h1, h2, h3⟩ =>
    ⟨fun n => by rw [h]; exact h1 n, fun m n => by rw [h, h]; exact h2 m n, fun n t => by rw [h]; exact h3 n t⟩

theorem State.setPort_keeps {n : PortNo} {x : Port} (h : x.role = (s.ports.rd n).role) : s.Keeps (s.setPort n x) :=
  .ofRoles fun m => by
    rw [Table.rd_wr]
    split
    · next e => rw [h, e]
    · rfl

theorem State.raise_keeps (a : Attention) (entitled : Role → Bool) : s.Keeps (s.raise a entitled) :=
  .ofRoles fun n => by
    rw [Table.rd_map]
    split <;> rfl

theorem State.placeAnswer_keeps (n : PortNo) (a : Answer) : s.Keeps (s.placeAnswer n a) := State.setPort_keeps rfl

theorem State.begun_keeps (n : PortNo) (r : Request) (tag : Byte) : s.Keeps (s.begun n r tag) :=
  State.setPort_keeps rfl

theorem State.answerEnrolment_keeps (who : Option (PortNo × Byte)) (st : Status) (b : List Byte) :
    s.Keeps (s.answerEnrolment who st b) := by
  unfold State.answerEnrolment
  split
  · exact .refl s
  · split
    · exact State.placeAnswer_keeps _ _
    · exact .refl s

/-- A port other than port 0 takes a role that the binding table allows it (R185). -/
theorem State.bindPort_keeps {n : PortNo} {role : Role} (hn : n ≠ 0) (hf : role ≠ .facilities)
    (ht : ∀ t, role = .tenant t → (s.tenants.rd t).isSome = true)
    (hs : role = .supplies → ∀ m, m ≠ n → (s.ports.rd m).role ≠ .supplies) : s.Keeps (s.bindPort n role) := by
  refine .ofPorts fun ⟨h1, h2, h3⟩ => ?_
  have rd (m : PortNo) : ((s.ports.wr n ((s.ports.rd n).bind role)).rd m).role =
      if n = m then role else (s.ports.rd m).role := by
    rw [Table.rd_wr]
    split <;> rfl
  refine ⟨fun m => ?_, fun m k hm hk => ?_, fun m t hm => ?_⟩
  · rw [rd]
    split
    · next e =>
      subst e
      exact ⟨fun e => absurd e hf, fun e => absurd e hn⟩
    · exact h1 m
  · rw [rd] at hm hk
    split at hm <;> split at hk
    · next e e' => rw [← e, e']
    · next e e' => exact absurd hk (hs hm k (Ne.symm e'))
    · next e e' => exact absurd hm (hs hk m (Ne.symm e))
    · exact h2 m k hm hk
  · rw [rd] at hm
    split at hm
    · exact ht t hm
    · exact h3 m t hm

theorem State.unbindTenant_keeps (t : TenantNo) : s.Keeps (s.unbindTenant t) := by
  refine .ofPorts fun ⟨h1, h2, h3⟩ => ?_
  have rd (m : PortNo) : ((s.ports.map fun p => if p.role = .tenant t then p.bind .unbound else p).rd m).role =
      if (s.ports.rd m).role = .tenant t then .unbound else (s.ports.rd m).role := by
    rw [Table.rd_map]
    split <;> rfl
  refine ⟨fun m => ?_, fun m k hm hk => ?_, fun m u hm => ?_⟩
  · rw [rd]
    split
    · next e => exact ⟨nofun, fun h => by rw [(h1 m).mpr h] at e; cases e⟩
    · exact h1 m
  · rw [rd] at hm hk
    split at hm
    · cases hm
    · split at hk
      · cases hk
      · exact h2 m k hm hk
  · rw [rd] at hm
    split at hm
    · cases hm
    · exact h3 m u hm

/-! ### The clock -/

theorem State.Keeps.ofClock {c : Clock} (h : s.ClockInRange → c.day ≤ 65535 ∧ c.second ≤ 86399) :
    s.Keeps { s with clock := c } :=
  ⟨rfl, h, id, id, id, id, fun _ => id, id, fun _ => id⟩

theorem Clock.succ_inRange {c : Clock} (h : c.day ≤ 65535 ∧ c.second ≤ 86399) :
    c.succ.day ≤ 65535 ∧ c.succ.second ≤ 86399 := by
  unfold Clock.succ
  obtain ⟨h1, h2⟩ := h
  split
  · exact ⟨h1, by simp only; omega⟩
  · exact ⟨by dsimp only; split <;> omega, by simp⟩

/-! ### The callout list -/

@[simp] theorem calloutClass_calloutNo : calloutClass (calloutNo p cls) = cls := by
  cases cls <;> simp [calloutClass, calloutNo, Nat.add_mod]

@[simp] theorem calloutPrinter_calloutNo : calloutPrinter (calloutNo p cls) = p := by
  apply Fin.ext
  cases cls <;> simp only [calloutPrinter, calloutNo] <;> omega

@[simp] theorem calloutNo_printer_class (n : CalloutNo) : calloutNo (calloutPrinter n) (calloutClass n) = n := by
  apply Fin.ext
  obtain h | h | h : n.val % 3 = 0 ∨ n.val % 3 = 1 ∨ n.val % 3 = 2 := by omega
  all_goals
    simp only [calloutClass, calloutNo, calloutPrinter, h]
    omega

theorem anyOpenCallout_iff {callouts : Table 192 (Option Callout)} : anyOpenCallout callouts cls = true ↔
    ∃ n x, calloutClass n = cls ∧ callouts.rd n = some x ∧ x.state = .opened := by
  simp only [anyOpenCallout, List.any_eq_true, List.mem_finRange, true_and, Option.any_eq_true, decide_eq_true_eq]
  constructor
  · rintro ⟨p, x, hx, ho⟩
    exact ⟨_, x, calloutClass_calloutNo, hx, ho⟩
  · rintro ⟨n, x, rfl, hx, ho⟩
    exact ⟨calloutPrinter n, x, by rw [calloutNo_printer_class, hx], ho⟩

theorem PerClass.get_set {α : Type} (x : PerClass α) (c d : CondClass) (a : α) :
    (x.set c a).get d = if c = d then a else x.get d := by
  cases c <;> cases d <;> rfl

/-- The line of one class follows its callouts (R167). -/
def State.LineFollows (s : State) (cls : CondClass) : Prop :=
  s.lines.get cls = true ↔ ∃ n x, calloutClass n = cls ∧ s.callouts.rd n = some x ∧ x.state = .opened

/-- A record written makes its class's line follow, whatever the line was before. -/
theorem State.setCallout_lineFollows (p : PrinterNo) (cls : CondClass) (x : Option Callout) :
    (s.setCallout p cls x).LineFollows cls := by
  simp only [State.LineFollows, State.setCallout_lines, State.setCallout_callouts, PerClass.get_set, if_true]
  exact anyOpenCallout_iff

theorem State.LineFollows.setCallout {d : CondClass} (h : s.LineFollows d) (p : PrinterNo) (cls : CondClass)
    (x : Option Callout) : (s.setCallout p cls x).LineFollows d := by
  by_cases e : cls = d
  · subst e
    exact State.setCallout_lineFollows p cls x
  · have same {n : CalloutNo} (hn : calloutClass n = d) :
        (s.callouts.wr (calloutNo p cls) x).rd n = s.callouts.rd n :=
      Table.rd_wr_of_ne _ _ fun e' => e (by rw [← hn, ← e', calloutClass_calloutNo])
    simp only [State.LineFollows, State.setCallout_lines, State.setCallout_callouts, PerClass.get_set, if_neg e]
    refine h.trans ⟨?_, ?_⟩
    · rintro ⟨n, y, hn, hy, ho⟩
      exact ⟨n, y, hn, by rw [same hn, hy], ho⟩
    · rintro ⟨n, y, hn, hy, ho⟩
      exact ⟨n, y, hn, by rw [← same hn, hy], ho⟩

theorem State.LinesFollow.setCallout (h : s.LinesFollow) (p : PrinterNo) (cls : CondClass) (x : Option Callout) :
    (s.setCallout p cls x).LinesFollow := fun d => State.LineFollows.setCallout (h d) p cls x

theorem State.setCallout_keeps (p : PrinterNo) (cls : CondClass) (x : Option Callout) :
    s.Keeps (s.setCallout p cls x) :=
  ⟨rfl, id, id, fun h => h.setCallout p cls x, id, id, fun _ => id, id, fun _ => id⟩

theorem State.calloutTakesCode_keeps (p : PrinterNo) (cls : CondClass) (code : Byte) :
    s.Keeps (s.calloutTakesCode p cls code) := by
  unfold State.calloutTakesCode
  split
  · split
    · exact .refl s
    · exact State.setCallout_keeps _ _ _
  · exact .refl s

theorem State.clearCallout_keeps (p : PrinterNo) (cls : CondClass) : s.Keeps (s.clearCallout p cls) := by
  unfold State.clearCallout
  split
  · split
    · exact .refl s
    · exact (State.setCallout_keeps _ _ _).trans (State.raise_keeps _ _)
  · exact .refl s

theorem State.freeCallouts_keeps (p : PrinterNo) : s.Keeps (s.freeCallouts p) :=
  ((State.setCallout_keeps _ _ _).trans (State.setCallout_keeps _ _ _)).trans (State.setCallout_keeps _ _ _)

/-! ### The printer table -/

/-- A printer record whose service state, sharing, active job and number of slots stay, with derived slots where they
were derived; or one that stays not enrolled. -/
inductive Printer.Soft : Printer → Printer → Prop where
  | unenrolled {a b : Printer} (ha : a.enrolled? = none) (hb : b.enrolled? = none) : Printer.Soft a b
  | enrolled {e e' : Enrolled} (service : e'.service = e.service) (sharing : e'.sharing = e.sharing)
      (activeJob : e'.activeJob = e.activeJob) (length : e'.slots.length = e.slots.length)
      (derived : (∀ x ∈ e.slots, x.Derived) → ∀ x ∈ e'.slots, x.Derived) :
      Printer.Soft (.enrolled e) (.enrolled e')

theorem Printer.Soft.refl (x : Printer) : x.Soft x := by
  cases x with
  | enrolled e => exact .enrolled rfl rfl rfl rfl id
  | _ => exact .unenrolled rfl rfl

/-- What a soft change of the printer table shows of the old record. -/
theorem State.soft_enrolled {xs : Table 64 Printer} (h : ∀ p, (s.printers.rd p).Soft (xs.rd p)) {e' : Enrolled}
    (he : State.enrolled { s with printers := xs } p = some e') :
    ∃ e, s.enrolled p = some e ∧ e'.service = e.service ∧ e'.sharing = e.sharing ∧ e'.activeJob = e.activeJob
      ∧ e'.slots.length = e.slots.length ∧ ((∀ x ∈ e.slots, x.Derived) → ∀ x ∈ e'.slots, x.Derived) := by
  have hp := h p
  rw [State.enrolled_eq_some] at he
  dsimp only at he
  rw [he] at hp
  cases hs : s.printers.rd p with
  | enrolled e =>
    rw [hs] at hp
    cases hp with
    | unenrolled ha hb => cases hb
    | enrolled h1 h2 h3 h4 h5 => exact ⟨e, State.enrolled_eq_some.mpr hs, h1, h2, h3, h4, h5⟩
  | _ =>
    rw [hs] at hp
    cases hp with
    | unenrolled ha hb => cases hb

theorem State.soft_enrolled_of {xs : Table 64 Printer} (h : ∀ p, (s.printers.rd p).Soft (xs.rd p)) {e : Enrolled}
    (he : s.enrolled p = some e) :
    ∃ e', State.enrolled { s with printers := xs } p = some e' ∧ e'.service = e.service ∧ e'.sharing = e.sharing
      ∧ e'.activeJob = e.activeJob := by
  have hp := h p
  rw [State.enrolled_eq_some.mp he] at hp
  cases hx : xs.rd p with
  | enrolled e' =>
    rw [hx] at hp
    cases hp with
    | unenrolled ha hb => cases hb
    | enrolled h1 h2 h3 h4 h5 => exact ⟨e', State.enrolled_eq_some.mpr hx, h1, h2, h3⟩
  | _ =>
    rw [hx] at hp
    cases hp with
    | unenrolled ha hb => cases ha

theorem State.soft_activeJob {xs : Table 64 Printer} (h : ∀ p, (s.printers.rd p).Soft (xs.rd p)) (p : PrinterNo) :
    State.activeJob { s with printers := xs } p = s.activeJob p := by
  unfold State.activeJob
  cases he : s.enrolled p with
  | some e =>
    obtain ⟨e', he', -, -, ha⟩ := State.soft_enrolled_of h he
    rw [he']
    exact ha
  | none =>
    cases he' : State.enrolled { s with printers := xs } p with
    | none => rfl
    | some e' =>
      obtain ⟨e, he'', -⟩ := State.soft_enrolled h he'
      rw [he] at he''
      cases he''

/-- The printers' part of the books: the links of the active jobs. -/
theorem State.BooksKept.ofLinks {xs : Table 64 Printer} (h : s.BooksKept)
    (hl : State.ActiveLinked { s with printers := xs }) : State.BooksKept { s with printers := xs } := by
  obtain ⟨h1, -, h3, h4, h5⟩ := h
  exact ⟨h1, hl, h3, h4, h5⟩

theorem State.Keeps.ofPrinters {xs : Table 64 Printer} (h : ∀ p, (s.printers.rd p).Soft (xs.rd p)) :
    s.Keeps { s with printers := xs } where
  pending := rfl
  clock := id
  ports := id
  lines := id
  served hs p x hx := by
    obtain ⟨e, he, hv, hg⟩ := hs p x hx
    obtain ⟨e', he', h1, h2, -⟩ := State.soft_enrolled_of h he
    exact ⟨e', he', h1.trans hv, by rw [h2]; exact hg⟩
  slots hs p e' he' := by
    obtain ⟨e, he, -, -, -, h4, h5⟩ := State.soft_enrolled h he'
    obtain ⟨hlo, hhi, hd⟩ := hs p e he
    exact ⟨by rw [h4]; exact hlo, by rw [h4]; exact hhi, h5 hd⟩
  reorders _ := id
  books hb := by
    refine hb.ofLinks ?_
    obtain ⟨-, ⟨h1, h2, h3⟩, -⟩ := hb
    refine ⟨fun n j p cam hj ha => ?_, fun p g hg => ?_, fun p e' he' hd => ?_⟩
    · rw [State.soft_activeJob h]
      exact h1 n j p cam hj ha
    · rw [State.soft_activeJob h] at hg
      exact h2 p g hg
    · obtain ⟨e, he, hv, -, ha, -⟩ := State.soft_enrolled h he'
      rw [ha]
      exact h3 p e he (hv ▸ hd)
  reserved _ := id

/-- A printer's record written softly. -/
theorem State.setPrinter_keeps {x : Printer} (h : (s.printers.rd p).Soft x) : s.Keeps (s.setPrinter p x) :=
  .ofPrinters fun q => by
    rw [Table.rd_wr]
    split
    · next e => exact e ▸ h
    · exact .refl _

/-! ### Sessions -/

/-- A session that keeps its account, and keeps or drops handles of its release list. -/
def Session.Soft (x y : Session) : Prop := y.account = x.account ∧ y.release.Sublist x.release

theorem Session.Soft.refl (x : Session) : x.Soft x := ⟨rfl, List.Sublist.refl _⟩

theorem State.Keeps.ofSessions {ss : Table 64 (Option Session)}
    (h : ∀ p, Option.Rel Session.Soft (s.sessions.rd p) (ss.rd p)) : s.Keeps { s with sessions := ss } := by
  have back {p : PrinterNo} {y : Session} (hy : ss.rd p = some y) : ∃ x, s.sessions.rd p = some x ∧ x.Soft y := by
    have hp := h p
    rw [hy] at hp
    cases hx : s.sessions.rd p with
    | none =>
      rw [hx] at hp
      cases hp
    | some x =>
      rw [hx] at hp
      cases hp with
      | some hxy => exact ⟨x, rfl, hxy⟩
  have forth {p : PrinterNo} {x : Session} (hx : s.sessions.rd p = some x) : ∃ y, ss.rd p = some y ∧ x.Soft y := by
    have hp := h p
    rw [hx] at hp
    cases hy : ss.rd p with
    | none =>
      rw [hy] at hp
      cases hp
    | some y =>
      rw [hy] at hp
      cases hp with
      | some hxy => exact ⟨y, rfl, hxy⟩
  refine ⟨rfl, id, id, id, fun hs p y hy => ?_, id, fun _ => id, fun hb => ?_, fun _ => id⟩
  · obtain ⟨x, hx, ha, -⟩ := back hy
    obtain ⟨e, he, hv, hg⟩ := hs p x hx
    exact ⟨e, he, hv, by rw [ha]; exact hg⟩
  · obtain ⟨h1, h2, h3, h4, k1, k2, k3, k4⟩ := hb
    refine ⟨h1, h2, h3, h4, fun p y hy => ?_, fun a ha p hp => ?_, fun p y hy => ?_, fun p q y z g hy hz gy gz => ?_⟩
    · obtain ⟨x, hx, ha, -⟩ := back hy
      rw [ha]
      exact k1 p x hx
    · obtain ⟨x, hx, hxa⟩ := k2 a ha p hp
      obtain ⟨y, hy, hya, -⟩ := forth hx
      exact ⟨y, hy, hya.trans hxa⟩
    · obtain ⟨x, hx, ha, hsub⟩ := back hy
      obtain ⟨hn, hl, hh⟩ := k3 p x hx
      refine ⟨hn.sublist hsub, hsub.length_le.trans hl, fun g hg => ?_⟩
      obtain ⟨j, hj, hs, ho⟩ := hh g (hsub.subset hg)
      exact ⟨j, hj, hs, ho.trans ha.symm⟩
    · obtain ⟨x, hx, -, hsub⟩ := back hy
      obtain ⟨w, hw, -, hsub'⟩ := back hz
      exact k4 p q x w g hx hw (hsub.subset gy) (hsub'.subset gz)

theorem State.setSession_keeps {x y : Session} (hx : s.sessions.rd p = some x) (h : x.Soft y) :
    s.Keeps (s.setSession p (some y)) :=
  .ofSessions fun q => by
    rw [Table.rd_wr]
    split
    · next e =>
      rw [← e, hx]
      exact .some h
    · cases s.sessions.rd q with
      | none => exact .none
      | some z => exact .some (.refl z)

theorem State.modSession_keeps {f : Session → Session} (h : ∀ x, s.sessions.rd p = some x → x.Soft (f x)) :
    s.Keeps (s.modSession p f) := by
  unfold State.modSession
  split
  · next x hx => exact State.setSession_keeps hx (h x hx)
  · exact .refl s

/-- The arbiters keep every invariant (R25). -/
theorem serveChannels_keeps (s : State) : s.Keeps s.serveChannels := by
  have h := serveChannels_servedTo s
  have hrel (p : PrinterNo) : Option.Rel Session.Soft (s.sessions.rd p) (s.serveChannels.sessions.rd p) := by
    cases hx : s.sessions.rd p with
    | none =>
      rw [h.noSession p hx]
      exact .none
    | some x =>
      obtain ⟨y, hy, e⟩ := h.session p x hx
      rw [hy, e]
      exact .some (.refl _)
  obtain ⟨cs, ps, ss, e⟩ := h.rest
  rw [e] at hrel ⊢
  exact (State.Keeps.ofSessions hrel).trans (.floor cs ps _ _ _ _ _ _ _ _)

end Sys2Proof.Machine
end

section
/-! SUPPORT. The slots and the reorder list: what a slot's updates and the list's operations keep (R119, R136). -/

namespace Sys2Proof.Machine

variable {s t u : State} {p : PrinterNo} {i : Nat} {x y : Slot} {r : Reorder} {e : Enrolled}

/-! ### Slots -/

theorem Slot.Derived.consume (h : x.Derived) (d : Nat) : (x.consume d).Derived := by
  obtain ⟨h1, h2, -, -⟩ := h
  exact ⟨h1, (Nat.sub_le _ _).trans h2, rfl, rfl⟩

theorem Slot.Derived.closeDay (h : x.Derived) : x.closeDay.Derived := by
  obtain ⟨h1, h2, h3, -⟩ := h
  exact ⟨h1, h2, h3, rfl⟩

theorem Slot.Derived.emptied (h : x.Derived) : x.emptied.Derived := by
  obtain ⟨h1, -, -, -⟩ := h
  exact ⟨h1, Nat.zero_le _, by simp [Slot.emptied], rfl⟩

theorem Slot.Derived.replaced (h : x.Derived) (identity : Word32) : (x.replaced identity).Derived := by
  obtain ⟨h1, -, -, -⟩ := h
  refine ⟨h1, le_refl _, ?_, rfl⟩
  have hpos : 0 < x.capacity := by omega
  simp [Slot.replaced, Nat.mul_div_cancel_left _ hpos]

theorem Slot.Derived.withPresent (h : x.Derived) (b : Bool) : Slot.Derived { x with present := b } := h

theorem slotOfEntry_derived {d : List Byte} (h : entryYield d i ≠ 0) : (slotOfEntry d i).Derived := by
  have hcap : 5000 ≤ capacityOf (entryYield d i) := by
    unfold capacityOf
    omega
  have hpos : 0 < capacityOf (entryYield d i) := by omega
  refine ⟨hcap, le_refl _, ?_, rfl⟩
  simp [slotOfEntry, Nat.mul_div_cancel_left _ hpos]

theorem State.slot_eq_some : s.slot p i = some x ↔ ∃ e, s.printers.rd p = .enrolled e ∧ e.slots[i]? = some x := by
  simp only [State.slot, Option.bind_eq_some_iff, State.enrolled_eq_some]

theorem State.slot_of (he : s.printers.rd p = .enrolled e) : s.slot p i = e.slots[i]? := by
  simp only [State.slot, State.enrolled_eq_some.mpr he, Option.bind_some]

theorem State.setSlot_eq (he : s.printers.rd p = .enrolled e) :
    s.setSlot p i x = s.setPrinter p (.enrolled { e with slots := e.slots.set i x }) := by
  simp only [State.setSlot, State.enrolled_eq_some.mpr he, State.setEnrolled]

/-- A slot that stands has one of the five numbers. -/
theorem State.SlotsDerived.slot_lt (h : s.SlotsDerived) (hx : s.slot p i = some x) : i < 5 := by
  obtain ⟨e, he, hi⟩ := State.slot_eq_some.mp hx
  obtain ⟨-, hle, -⟩ := h p e (State.enrolled_eq_some.mpr he)
  obtain ⟨hlt, -⟩ := List.getElem?_eq_some_iff.mp hi
  omega

/-- A slot written over a slot, derived where the old one was. -/
theorem State.setSlot_keeps (hx : s.slot p i = some x) (h : x.Derived → y.Derived) : s.Keeps (s.setSlot p i y) := by
  obtain ⟨e, he, hi⟩ := State.slot_eq_some.mp hx
  rw [State.setSlot_eq he]
  refine State.setPrinter_keeps ?_
  rw [he]
  refine .enrolled rfl rfl rfl (by simp) fun hd z hz => ?_
  obtain hz | rfl := List.mem_or_eq_of_mem_set hz
  · exact hd z hz
  · exact h (hd x (List.mem_of_getElem? hi))

theorem State.setSlot_slot (hx : s.slot p i = some x) : (s.setSlot p i y).slot p i = some y := by
  obtain ⟨e, he, hi⟩ := State.slot_eq_some.mp hx
  obtain ⟨hlt, -⟩ := List.getElem?_eq_some_iff.mp hi
  rw [State.setSlot_eq he, State.slot_of (e := { e with slots := e.slots.set i y }) (by simp)]
  simp [hlt]

/-! ### The reorder list -/

theorem State.openReorder_eq_none : s.openReorder p i = none ↔
    ∀ r ∈ s.reorders, r.printer = p → r.slot = i → r.state.isOpen = false := by
  simp only [State.openReorder, List.find?_eq_none, Reorder.concerns, Bool.and_eq_true, decide_eq_true_eq, not_and,
    Bool.not_eq_true, and_imp]

theorem State.openReorder_eq_some (h : s.openReorder p i = some r) :
    r ∈ s.reorders ∧ r.printer = p ∧ r.slot = i ∧ r.state.isOpen = true := by
  have hr := List.find?_some h
  simp only [Reorder.concerns, Bool.and_eq_true, decide_eq_true_eq, and_assoc] at hr
  exact ⟨List.mem_of_find?_eq_some h, hr⟩

/-- In a list of distinct numbers, a record is its number's. -/
theorem eq_of_number_eq {l : List Reorder} (h : (l.map (·.number)).Nodup) {q : Reorder} (hr : r ∈ l) (hq : q ∈ l)
    (e : r.number = q.number) : r = q :=
  List.inj_on_of_nodup_map h hr hq e

/-- 64 printers of 5 slots with an open and a closed record each bound the list. -/
theorem State.ReordersKept.length_le (h : s.ReordersKept) : s.reorders.length ≤ 640 := by
  obtain ⟨hn, -, -, -, hr, hu⟩ := h
  have key : (s.reorders.map fun r => (r.printer, (Fin.ofNat 5 r.slot, r.state.isOpen))).Nodup := by
    refine (List.Nodup.of_map _ hn).map_on fun a ha b hb hab => ?_
    simp only [Prod.mk.injEq] at hab
    obtain ⟨h1, h2, h3⟩ := hab
    obtain ⟨-, -, hla⟩ := hr a ha
    obtain ⟨-, -, hlb⟩ := hr b hb
    refine hu a ha b hb h1 ?_ h3
    have h2 := congrArg Fin.val h2
    simp only [Fin.ofNat] at h2
    omega
  have hcard := key.length_le_card
  simpa using hcard

theorem succNumber_iterate {n : Nat} (h1 : 1 ≤ n) (h2 : n ≤ 65535) (k : Nat) :
    succNumber^[k] n = (n - 1 + k) % 65535 + 1 := by
  induction k with
  | zero => simp only [Function.iterate_zero, id]; omega
  | succ k ih =>
    rw [Function.iterate_succ_apply', ih, succNumber]
    split <;> omega

/-- A search that ends on a held number has found every number it passed held. -/
theorem freeNumber_mem {held : List Nat} {fuel n : Nat} (h : freeNumber held fuel n ∈ held) :
    ∀ k ≤ fuel, succNumber^[k] n ∈ held := by
  induction fuel generalizing n with
  | zero =>
    intro k hk
    obtain rfl : k = 0 := by omega
    exact h
  | succ fuel ih =>
    rw [freeNumber] at h
    split at h
    · next hn =>
      intro k hk
      cases k with
      | zero => exact hn
      | succ k =>
        rw [Function.iterate_succ_apply]
        exact ih h k (by omega)
    · next hn => exact absurd h hn

theorem freeNumber_range {held : List Nat} {fuel n : Nat} (h1 : 1 ≤ n) (h2 : n ≤ 65535) :
    1 ≤ freeNumber held fuel n ∧ freeNumber held fuel n ≤ 65535 := by
  induction fuel generalizing n with
  | zero => exact ⟨h1, h2⟩
  | succ fuel ih =>
    rw [freeNumber]
    split
    · unfold succNumber
      split
      · exact ih (by omega) (by omega)
      · exact ih (le_refl _) (by omega)
    · exact ⟨h1, h2⟩

/-- A search as long as the list finds a number that no record holds. -/
theorem freeNumber_not_mem {held : List Nat} {n : Nat} (h1 : 1 ≤ n) (h2 : n ≤ 65535) (hl : held.length < 65535) :
    freeNumber held held.length n ∉ held := by
  intro h
  have hall := freeNumber_mem h
  have nodup : ((List.range (held.length + 1)).map fun k => succNumber^[k] n).Nodup := by
    refine List.nodup_range.map_on fun a ha b hb hab => ?_
    rw [List.mem_range] at ha hb
    rw [succNumber_iterate h1 h2, succNumber_iterate h1 h2] at hab
    omega
  have hsub := nodup.subperm (l₂ := held) fun k hk => by
    obtain ⟨a, ha, rfl⟩ := List.mem_map.mp hk
    exact hall a (by rw [List.mem_range] at ha; omega)
  have := hsub.length_le
  simp at this

/-- A record joins the list where the slot has none of its kind, open or closed (R136). -/
theorem State.ReordersKept.addReorder (h : s.ReordersKept) (hi : r.slot < 5)
    (hfree : ∀ q ∈ s.reorders, q.printer = r.printer → q.slot = r.slot → q.state.isOpen ≠ r.state.isOpen) :
    (s.addReorder r).ReordersKept := by
  have hlen := h.length_le
  obtain ⟨hn, hc, hc1, hc2, hr, hu⟩ := h
  have nums : (s.reorders ++ [{ r with number := s.reorderCounter }]).map (fun r : Reorder => r.number)
      = s.reorders.map (·.number) ++ [s.reorderCounter] := by simp
  have succ1 : 1 ≤ succNumber s.reorderCounter ∧ succNumber s.reorderCounter ≤ 65535 := by
    unfold succNumber
    split <;> omega
  have range := freeNumber_range (held := s.reorders.map (·.number) ++ [s.reorderCounter])
    (fuel := (s.reorders ++ [{ r with number := s.reorderCounter }]).length) succ1.1 succ1.2
  refine ⟨?_, ?_, ?_, ?_, ?_, ?_⟩
  · rw [State.addReorder, nums, List.nodup_append]
    refine ⟨hn, by simp, fun a ha b hb e => hc ?_⟩
    rw [List.mem_singleton] at hb
    rwa [← hb, ← e]
  · have := freeNumber_not_mem (held := s.reorders.map (·.number) ++ [s.reorderCounter]) succ1.1 succ1.2
      (by simp; omega)
    simp only [State.addReorder, nums]
    simpa using this
  · simp only [State.addReorder, nums]
    exact range.1
  · simp only [State.addReorder, nums]
    exact range.2
  · intro q hq
    rw [State.addReorder, List.mem_append, List.mem_singleton] at hq
    obtain hq | rfl := hq
    · exact hr q hq
    · exact ⟨hc1, hc2, hi⟩
  · intro a ha b hb h1 h2 h3
    rw [State.addReorder, List.mem_append, List.mem_singleton] at ha hb
    obtain ha | rfl := ha <;> obtain hb | rfl := hb
    · exact hu a ha b hb h1 h2 h3
    · exact absurd h3 (hfree a ha h1 h2)
    · exact absurd h3.symm (hfree b hb h1.symm h2.symm)
    · rfl

/-- Records dropped from the list, and the others changed in what is not their number or slot. -/
theorem State.ReordersKept.mapSub (h : s.ReordersKept) {l : List Reorder} {f : Reorder → Reorder}
    (hsub : l.Sublist s.reorders)
    (hf : ∀ r ∈ l, (f r).number = r.number ∧ (f r).printer = r.printer ∧ (f r).slot = r.slot)
    (huniq : ∀ r ∈ l, ∀ q ∈ l, r.printer = q.printer → r.slot = q.slot →
      (f r).state.isOpen = (f q).state.isOpen → r = q) :
    State.ReordersKept { s with reorders := l.map f } := by
  obtain ⟨hn, hc, hc1, hc2, hr, -⟩ := h
  have nums : (l.map f).map (·.number) = l.map (·.number) := by
    rw [List.map_map]
    exact List.map_congr_left fun r hr => (hf r hr).1
  have numsub := hsub.map (f := (·.number))
  refine ⟨?_, ?_, hc1, hc2, fun q hq => ?_, fun a ha b hb h1 h2 h3 => ?_⟩
  · rw [nums]
    exact hn.sublist numsub
  · rw [nums]
    exact fun hm => hc (numsub.subset hm)
  · obtain ⟨r, hrl, rfl⟩ := List.mem_map.mp hq
    obtain ⟨h1, -, h3⟩ := hf r hrl
    rw [h1, h3]
    exact hr r (hsub.subset hrl)
  · obtain ⟨r, hrl, rfl⟩ := List.mem_map.mp ha
    obtain ⟨q, hql, rfl⟩ := List.mem_map.mp hb
    obtain ⟨-, hrp, hrs⟩ := hf r hrl
    obtain ⟨-, hqp, hqs⟩ := hf q hql
    rw [hrp, hqp] at h1
    rw [hrs, hqs] at h2
    rw [huniq r hrl q hql h1 h2 h3]

/-- Records dropped, and the others changed in what is not their number, slot or openness. -/
theorem State.ReordersKept.mapSoft (h : s.ReordersKept) {l : List Reorder} {f : Reorder → Reorder}
    (hsub : l.Sublist s.reorders)
    (hf : ∀ r ∈ l, (f r).number = r.number ∧ (f r).printer = r.printer ∧ (f r).slot = r.slot)
    (hopen : ∀ r ∈ l, (f r).state.isOpen = r.state.isOpen) : State.ReordersKept { s with reorders := l.map f } := by
  obtain ⟨-, -, -, -, -, hu⟩ := id h
  refine h.mapSub hsub hf fun r hr q hq h1 h2 h3 => ?_
  rw [hopen r hr, hopen q hq] at h3
  exact hu r (hsub.subset hr) q (hsub.subset hq) h1 h2 h3

theorem State.ReordersKept.sub (h : s.ReordersKept) {l : List Reorder} (hsub : l.Sublist s.reorders) :
    State.ReordersKept { s with reorders := l } := by
  have h' := h.mapSoft hsub (f := id) (fun _ _ => ⟨rfl, rfl, rfl⟩) fun _ _ => rfl
  rwa [List.map_id] at h'

/-- An open record closed: the slot's older closed one makes room for it (R136, R141, R145). -/
theorem State.ReordersKept.closeReorder (h : s.ReordersKept) (hr : r ∈ s.reorders) (ho : r.state.isOpen = true)
    (state : ReorderState) : (s.closeReorder r state).ReordersKept := by
  obtain ⟨hn, -, -, -, -, hu⟩ := id h
  have self {q : Reorder} (hq : q ∈ s.reorders) (e : q.number = r.number) : q = r := eq_of_number_eq hn hq hr e
  have other {q : Reorder} (hq : q ∈ s.reorders.filter fun q => !(q.concerns r.printer r.slot && !q.state.isOpen))
      (h1 : q.printer = r.printer) (h2 : q.slot = r.slot) : q = r := by
    simp only [List.mem_filter, Reorder.concerns, h1, h2, decide_true, Bool.and_self, Bool.true_and, Bool.not_not]
      at hq
    exact hu q hq.1 r hr h1 h2 (hq.2.trans ho.symm)
  refine State.ReordersKept.mapSub h List.filter_sublist (fun q hq => ?_) fun a ha b hb h1 h2 h3 => ?_
  · split <;> exact ⟨rfl, rfl, rfl⟩
  · have ha' := (List.mem_filter.mp ha).1
    have hb' := (List.mem_filter.mp hb).1
    by_cases ea : a.number = r.number
    · obtain rfl := self ha' ea
      exact (other hb h1.symm h2.symm).symm
    · by_cases eb : b.number = r.number
      · obtain rfl := self hb' eb
        exact other ha h1 h2
      · simp only [ea, eb, if_false] at h3
        exact hu a ha' b hb' h1 h2 h3

theorem State.Keeps.ofReorders {rs : List Reorder} {n : Nat}
    (h : s.SlotsDerived → s.ReordersKept → State.ReordersKept { s with reorders := rs, reorderCounter := n }) :
    s.Keeps { s with reorders := rs, reorderCounter := n } :=
  ⟨rfl, id, id, id, id, id, h, id, fun _ => id⟩

/-- A record changed in what is not its number, slot or openness. -/
theorem State.modReorder_keeps {n : Nat} {f : Reorder → Reorder}
    (hf : ∀ r, (f r).number = r.number ∧ (f r).printer = r.printer ∧ (f r).slot = r.slot
      ∧ (f r).state.isOpen = r.state.isOpen) : s.Keeps (s.modReorder n f) :=
  .ofReorders (n := s.reorderCounter) fun _ h => h.mapSoft (List.Sublist.refl _)
    (fun r _ => by
      obtain ⟨h1, h2, h3, -⟩ := hf r
      split
      · exact ⟨h1, h2, h3⟩
      · exact ⟨rfl, rfl, rfl⟩)
    fun r _ => by
      obtain ⟨-, -, -, h4⟩ := hf r
      split
      · exact h4
      · rfl

theorem State.raiseReorder_keeps {urgency : Urgency} (hx : s.slot p i = some x) (ho : s.openReorder p i = none) :
    s.Keeps (s.raiseReorder p i y urgency) := by
  refine State.Keeps.trans (.ofReorders fun hs h => ?_) (State.raise_keeps _ _)
  refine h.addReorder (r := ⟨0, p, i, y.kind, urgency, .raised, s.clock, y.level, none, none⟩) (hs.slot_lt hx)
    fun q hq h1 h2 => ?_
  rw [State.openReorder_eq_none.mp ho q hq h1 h2]
  exact nofun

theorem State.urgentTest_keeps (p : PrinterNo) (i : Nat) : s.Keeps (s.urgentTest p i) := by
  unfold State.urgentTest
  split
  · next e x he hx =>
    split
    · split
      · next ho => exact State.raiseReorder_keeps hx ho
      · next r ho =>
        split
        · refine State.Keeps.trans ?_ (State.raise_keeps _ _)
          exact State.modReorder_keeps fun _ => ⟨rfl, rfl, rfl, rfl⟩
        · exact .refl s
    · exact .refl s
  · exact .refl s

theorem State.dayCloseTest_keeps (p : PrinterNo) (i : Nat) : s.Keeps (s.dayCloseTest p i) := by
  unfold State.dayCloseTest
  split
  · next x hx =>
    split
    · exact .refl s
    · next ho =>
      split
      · exact State.raiseReorder_keeps hx ho
      · exact .refl s
  · exact .refl s

/-- A slot of the printer written, and the reorder list told, keep every invariant. -/
theorem State.consumeSlot_keeps (p : PrinterNo) (large : Bool) (n cover i : Nat) :
    s.Keeps (s.consumeSlot p large n cover i) := by
  unfold State.consumeSlot
  split
  · next x hx => exact (State.setSlot_keeps hx fun h => h.consume _).trans (State.urgentTest_keeps p i)
  · exact .refl s

theorem State.consumeSides_keeps (p : PrinterNo) (large : Bool) (n : Nat) (body : List Byte) :
    s.Keeps (s.consumeSides p large n body) :=
  State.Keeps.foldl (fun _ _ => State.consumeSlot_keeps _ _ _ _ _) _ s

theorem State.closeSlot_keeps (p : PrinterNo) (i : Nat) : s.Keeps (s.closeSlot p i) := by
  unfold State.closeSlot
  split
  · next x hx => exact (State.setSlot_keeps hx fun h => h.closeDay).trans (State.dayCloseTest_keeps p i)
  · exact .refl s

theorem State.closeDay_keeps : s.Keeps s.closeDay := by
  refine State.Keeps.trans ?_ (State.Keeps.foldl (fun s n => ?_) _ { s with draws := s.draws + 1 })
  · exact .floor _ _ _ _ _ _ _ _ _ _
  · unfold State.closeSlotOf
    split
    · exact State.closeSlot_keeps _ _
    · exact .refl s

theorem State.emptySlot_keeps (p : PrinterNo) (i : Nat) : s.Keeps (s.emptySlot p i) := by
  unfold State.emptySlot
  split
  · next x hx => exact (State.setSlot_keeps hx fun h => h.emptied).trans (State.urgentTest_keeps p i)
  · exact .refl s

theorem State.handSlotEmpty_keeps (p : PrinterNo) (cls : CondClass) (code : Byte) :
    s.Keeps (s.handSlotEmpty p cls code) := by
  unfold State.handSlotEmpty
  split
  · exact State.emptySlot_keeps p _
  · exact .refl s

theorem State.reorderReplaced_keeps (hx : s.slot p i = some x) : s.Keeps (s.reorderReplaced p i y) := by
  unfold State.reorderReplaced
  split
  · next r ho =>
    obtain ⟨hr, -, -, hopen⟩ := State.openReorder_eq_some ho
    exact State.Keeps.trans (.ofReorders fun _ h => h.closeReorder hr hopen _) (State.raise_keeps _ _)
  · next ho =>
    refine State.Keeps.trans (.ofReorders fun hs h => ?_) (State.raise_keeps _ _)
    refine State.ReordersKept.addReorder
      (r := ⟨0, p, i, y.kind, .normal, .unplanned, s.clock, y.level, none, none⟩)
      (h.sub (List.filter_sublist (p := fun r : Reorder => !(r.concerns p i && !r.state.isOpen)))) (hs.slot_lt hx)
      fun q hq h1 h2 => ?_
    obtain ⟨hq, hc⟩ := List.mem_filter.mp hq
    have hclosed := State.openReorder_eq_none.mp ho q hq h1 h2
    simp [Reorder.concerns, h1, h2, hclosed] at hc

/-- REMOVE PRINTER: the printer's closed records make room for its open ones, which close (R142). -/
theorem State.reordersRemoved_keeps (p : PrinterNo) : s.Keeps (s.reordersRemoved p) := by
  have hlist : s.Keeps { s with
      reorders := (s.reorders.filter fun r => !(decide (r.printer = p) && !r.state.isOpen)).map fun r =>
        if r.printer = p then { r with state := .cancelled } else r } := by
    refine .ofReorders (n := s.reorderCounter) fun _ h => ?_
    obtain ⟨-, -, -, -, -, hu⟩ := id h
    refine h.mapSub List.filter_sublist (fun r _ => ?_) fun a ha b hb h1 h2 h3 => ?_
    · split <;> exact ⟨rfl, rfl, rfl⟩
    · obtain ⟨ha, hao⟩ := List.mem_filter.mp ha
      obtain ⟨hb, hbo⟩ := List.mem_filter.mp hb
      by_cases hp : a.printer = p
      · have hp' : b.printer = p := h1 ▸ hp
        simp only [hp, decide_true, Bool.true_and, Bool.not_not] at hao
        simp only [hp', decide_true, Bool.true_and, Bool.not_not] at hbo
        exact hu a ha b hb h1 h2 (hao.trans hbo.symm)
      · have hp' : ¬ b.printer = p := h1 ▸ hp
        rw [if_neg hp, if_neg hp'] at h3
        exact hu a ha b hb h1 h2 h3
  unfold State.reordersRemoved
  dsimp only
  split
  · exact hlist.trans (State.raise_keeps _ _)
  · exact hlist

theorem State.closeReorder_keeps (state : ReorderState) (hr : r ∈ s.reorders) (ho : r.state.isOpen = true) :
    s.Keeps (s.closeReorder r state) :=
  .ofReorders (n := s.reorderCounter) fun _ h => h.closeReorder hr ho state

/-- TAKE ORDERS: closed records returned are freed, and open ones stay open (R143). -/
theorem State.sendOrders_keeps : s.Keeps s.sendOrders := by
  refine .ofReorders (n := s.reorderCounter) fun _ h => h.mapSoft List.filter_sublist (fun r _ => ?_) fun r hr => ?_
  · split <;> exact ⟨rfl, rfl, rfl⟩
  · obtain ⟨-, hr⟩ := List.mem_filter.mp hr
    split
    · next hn =>
      rw [decide_eq_true hn] at hr
      simpa [ReorderState.isOpen] using hr
    · rfl

/-- A SENT record replaced by itself confirmed (R144). -/
theorem State.confirm_keeps {n : Nat} {r' : Reorder} (hr : s.reorder n = some r)
    (hf : r'.number = r.number ∧ r'.printer = r.printer ∧ r'.slot = r.slot ∧ r'.state.isOpen = r.state.isOpen) :
    s.Keeps (s.modReorder n fun _ => r') := by
  have hmem := List.mem_of_find?_eq_some hr
  have hnum : r.number = n := by simpa using List.find?_some hr
  obtain ⟨h1, h2, h3, h4⟩ := hf
  refine .ofReorders (n := s.reorderCounter) fun _ h => ?_
  have self {q : Reorder} (hq : q ∈ s.reorders) (e : q.number = n) : q = r :=
    eq_of_number_eq h.1 hq hmem (e.trans hnum.symm)
  refine h.mapSoft (List.Sublist.refl _) (fun q hq => ?_) fun q hq => ?_
  · split
    · next e =>
      obtain rfl := self hq e
      exact ⟨h1, h2, h3⟩
    · exact ⟨rfl, rfl, rfl⟩
  · split
    · next e =>
      obtain rfl := self hq e
      exact h4
    · rfl

end Sys2Proof.Machine
end

section
/-! SUPPORT. The moves of a job and the end of a session, each as one equation: what the state is afterwards (R60, R64 to
R67, R72, R73, R80, R106, R110). -/

namespace Sys2Proof.Machine

variable {s t u : State} {p q : PrinterNo} {h g : Handle} {j : Job} {cam : Bool} {e : Enrolled} {x : Tenant}
  {n : RecordNo} {key : AccountKey}

/-! ### Jobs by handle -/

theorem State.job_eq_some : s.job h = some j ↔ s.jobs.rd h.record = ⟨h.generation, some j⟩ := by
  unfold State.job
  obtain ⟨g', o⟩ := s.jobs.rd h.record
  by_cases hg : g' = h.generation
  · simp [hg]
  · simp [hg]

theorem State.jobAt_of_job (hj : s.job h = some j) : s.jobAt h.record = some j := by
  rw [State.jobAt, State.job_eq_some.mp hj]

theorem State.handleOf_of_job (hj : s.job h = some j) : s.handleOf h.record = h := by
  rw [State.handleOf, State.job_eq_some.mp hj]

theorem State.job_handleOf : s.job (s.handleOf n) = s.jobAt n := by
  simp [State.job, State.handleOf, State.jobAt]

theorem State.job_eq_some_iff : s.job h = some j ↔ s.jobAt h.record = some j ∧ s.handleOf h.record = h := by
  constructor
  · exact fun hj => ⟨State.jobAt_of_job hj, State.handleOf_of_job hj⟩
  · rintro ⟨hj, hh⟩
    rw [← hh, State.job_handleOf]
    exact hj

/-- The record of a handle's job written: the handle still names it. -/
theorem State.setJob_of_job (hj : s.job h = some j) (i : Job) :
    s.setJob h.record i = { s with jobs := s.jobs.wr h.record ⟨h.generation, some i⟩ } := by
  rw [State.setJob, State.job_eq_some.mp hj]

theorem State.jobAt_wr {r : JobRecord} {m : RecordNo} :
    State.jobAt { s with jobs := s.jobs.wr n r } m = if n = m then r.job else s.jobAt m := by
  simp only [State.jobAt, Table.rd_wr]
  split <;> rfl

/-! ### Tenants and accounts -/

theorem State.modTenant_of_some {t : TenantNo} (hx : s.tenants.rd t = some x) (f : Tenant → Tenant) :
    s.modTenant t f = s.setTenant t (some (f x)) := by
  simp only [State.modTenant, hx]

theorem State.modTenant_of_none {t : TenantNo} (hx : s.tenants.rd t = none) (f : Tenant → Tenant) :
    s.modTenant t f = s := by
  simp only [State.modTenant, hx]

/-- A change of an account's record that keeps its key, then another of the same account's. -/
theorem map_account_twice (as : List Account) (key : AccountKey) {f f' : Account → Account}
    (hf : ∀ a, (f a).key = a.key) :
    (as.map fun a => if a.key = key then f a else a).map (fun a => if a.key = key then f' a else a)
      = as.map fun a => if a.key = key then f' (f a) else a := by
  rw [List.map_map]
  refine List.map_congr_left fun a _ => ?_
  by_cases ha : a.key = key
  · simp [ha, hf]
  · simp [ha]

/-! ### The end of a session (R80) -/

theorem State.endSession_of_none {reason : EndReason} (hx : s.sessions.rd p = none) : s.endSession p reason = s := by
  simp only [State.endSession, hx]

theorem State.endSession_of_some {reason : EndReason} {x : Session} (hx : s.sessions.rd p = some x) :
    s.endSession p reason = { s with
      sessions := s.sessions.wr p none
      accounts := s.accounts.map fun a => if a.key = x.account then { a with session := none } else a
      positions := if reason.marks && !(x.loggedOut && reason.withJob) then
        s.positions.wr p { s.positions.rd p with endSession := true, endReason := some reason } else s.positions } := by
  simp only [State.endSession, hx]
  split <;> rfl

/-! ### A job leaving its printer (R66, R67) -/

/-- A printer's record without its active job: a DRAINING printer becomes DISABLED (R4). -/
def Enrolled.left (e : Enrolled) : Enrolled :=
  { e with activeJob := none, service := if e.service = .draining then .disabled else e.service }

/-- The event of a DRAINING printer that its job leaves (R4). -/
def State.raiseLeft (s : State) (e : Enrolled) : State :=
  if e.service = .draining then s.raise .printerDisabled toFacilities else s

theorem State.leavePrinter_eq (he : s.printers.rd p = .enrolled e) : s.leavePrinter p = { s with
    printers := s.printers.wr p (.enrolled e.left), ports := (s.raiseLeft e).ports } := by
  obtain ⟨service, sharing, descriptor, codes, grace, activeJob, slots⟩ := e
  simp only [State.leavePrinter, State.enrolled_eq_some.mpr he]
  cases service <;> rfl

theorem State.rehold_eq (hj : s.job h = some j) (ha : j.state.active = some (p, cam))
    (he : s.printers.rd p = .enrolled e) (hx : s.tenants.rd j.owner.tenant = some x) :
    s.rehold h p = some { s with
      jobs := s.jobs.wr h.record ⟨h.generation, some { j with
        state := .held, reserved := 0, holdMinutes := x.holdHours * 60 }⟩
      accounts := s.accounts.map fun a => if a.key = j.owner then
        { a with reserved := a.reserved - j.reserved, heldJobs := a.heldJobs + 1 } else a
      tenants := s.tenants.wr j.owner.tenant (some { x with poolReserved := x.poolReserved - j.reserved })
      printers := s.printers.wr p (.enrolled e.left)
      ports := ((s.raiseLeft e).raise .jobReheld (toTenant j.owner.tenant)).ports } := by
  have hacc := map_account_twice s.accounts j.owner (f := fun a => { a with reserved := a.reserved - j.reserved })
    (f' := fun a => { a with heldJobs := a.heldJobs + 1 }) fun _ => rfl
  simp only [State.rehold, State.activeAt_eq_some.mpr ⟨hj, cam, ha⟩, State.giveBack]
  rw [State.modTenant_of_some (s := s.modAccount _ _) hx]
  rw [State.leavePrinter_eq (e := e)]
  on_goal 2 => exact he
  simp only [State.setJob, State.setTenant_jobs, State.modAccount_jobs, State.job_eq_some.mp hj, State.holdTime,
    State.setTenant_tenants, Table.rd_wr_self, Option.map_some, Option.getD_some]
  rw [← hacc]
  unfold State.raiseLeft
  split <;> rfl

theorem State.finish_eq {outcome : JobOutcome} (hj : s.job h = some j) (ha : j.state.active = some (p, cam))
    (he : s.printers.rd p = .enrolled e) (hx : s.tenants.rd j.owner.tenant = some x) :
    s.finish h p outcome = some { s with
      jobs := s.jobs.wr h.record ⟨h.generation, some { j with state := .complete outcome s.clock, reserved := 0 }⟩
      accounts := s.accounts.map fun a => if a.key = j.owner then { a with reserved := a.reserved - j.reserved } else a
      tenants := s.tenants.wr j.owner.tenant (some { x with poolReserved := x.poolReserved - j.reserved })
      printers := s.printers.wr p (.enrolled e.left)
      submission := s.submission.filter (· ≠ h.record)
      completions := s.completions.wr j.owner.tenant (s.completions.rd j.owner.tenant ++ [h.record])
      ports := ((s.raiseLeft e).raise .jobFinished (toTenant j.owner.tenant)).ports } := by
  simp only [State.finish, State.activeAt_eq_some.mpr ⟨hj, cam, ha⟩, State.giveBack]
  rw [State.modTenant_of_some (s := s.modAccount _ _) hx]
  rw [State.leavePrinter_eq (e := e)]
  on_goal 2 => exact he
  simp only [State.setJob, State.setTenant_jobs, State.modAccount_jobs, State.job_eq_some.mp hj]
  unfold State.raiseLeft
  split <;> rfl

/-- A job that is not active at the printer is neither re-held nor finished there (R64). -/
theorem State.rehold_eq_none (hn : ∀ j cam, s.job h = some j → j.state.active ≠ some (p, cam)) :
    s.rehold h p = none := by
  simp only [State.rehold, State.activeAt_eq_none.mpr hn]

/-! ### A job granted and charged (R106, R110) -/

theorem State.grant_eq {est : Nat} (hj : s.job h = some j) (hx : s.tenants.rd j.owner.tenant = some x) :
    s.grant p e h j est = { s with
      accounts := s.accounts.map fun a => if a.key = j.owner then
        { a with reserved := a.reserved + est, heldJobs := a.heldJobs - 1 } else a
      tenants := s.tenants.wr j.owner.tenant (some { x with poolReserved := x.poolReserved + est })
      jobs := s.jobs.wr h.record ⟨h.generation, some { j with
        state := .granted p (colourAsMono e.descriptor j) none, reserved := est }⟩
      printers := s.printers.wr p (.enrolled { e with activeJob := some h })
      positions := s.positions.wr p { s.positions.rd p with grant := true } } := by
  simp only [State.grant]
  rw [State.modTenant_of_some (s := s.modAccount _ _) hx]
  simp only [State.setJob, State.setTenant_jobs, State.modAccount_jobs, State.job_eq_some.mp hj]
  rfl

/-- The account that a key finds is the only one that a change of the key's account meets. -/
theorem map_account_found (hn : (s.accounts.map (·.key)).Nodup) {a : Account} (ha : s.account key = some a)
    (f : Account → Account) :
    (s.accounts.map fun b => if b.key = key then f b else b) = s.accounts.map fun b => if b.key = key then f a else b := by
  have hkey : a.key = key := by simpa using List.find?_some ha
  refine List.map_congr_left fun b hb => ?_
  split
  · next h =>
    rw [List.inj_on_of_nodup_map hn hb (List.mem_of_find?_eq_some ha) (h.trans hkey.symm)]
  · rfl

theorem State.account_modAccount (f : Account → Account) (hf : ∀ a, (f a).key = a.key) (key k : AccountKey) :
    (s.modAccount key f).account k = (s.account k).map fun a => if a.key = key then f a else a := by
  have keyof (a : Account) : (if a.key = key then f a else a).key = a.key := by
    split
    · exact hf a
    · rfl
  simp only [State.account, State.modAccount_accounts, List.find?_map]
  congr 2
  funext a
  simp only [Function.comp, keyof]

theorem State.account_key {a : Account} (ha : s.account key = some a) : a.key = key := by
  simpa using List.find?_some ha

theorem State.account_mem {a : Account} (ha : s.account key = some a) : a ∈ s.accounts :=
  List.mem_of_find?_eq_some ha

/-- The EXHAUSTED flag of the account that a key finds, with its event when it goes from clear to set (R41). -/
theorem State.exhaustAccount_eq {a : Account} (hn : (s.accounts.map (·.key)).Nodup) (ha : s.account key = some a) :
    s.exhaustAccount key = { s with
      accounts := s.accounts.map fun b => if b.key = key then
        { a with exhausted := a.exhausted || reaches a.allowance a.charged } else b
      ports := (if a.exhausted = false ∧ reaches a.allowance a.charged = true
        then s.raise .accountExhausted (toTenant key.tenant) else s).ports } := by
  have same : (s.accounts.map fun b => if b.key = key then a else b) = s.accounts := by
    rw [← map_account_found hn ha fun b => b]
    simp
  obtain ⟨k, cr, al, ch, re, ba, ex, he, se⟩ := a
  simp only [State.exhaustAccount, ha]
  cases hr : reaches al ch <;> cases ex
  · simp [same]
  · simp [same]
  · simp only [Bool.not_false, Bool.and_self, if_true, Bool.or_true, State.modAccount]
    rw [map_account_found hn ha fun a => { a with exhausted := true }]
    rfl
  · simp [same]

theorem State.exhaustPool_eq {t : TenantNo} (hx : s.tenants.rd t = some x) :
    s.exhaustPool t = { s with
      tenants := s.tenants.wr t (some { x with
        poolExhausted := x.poolExhausted || reaches x.poolAllowance x.poolCharged })
      ports := (if x.poolExhausted = false ∧ reaches x.poolAllowance x.poolCharged = true
        then s.raise .poolExhausted (toTenantAndFacilities t) else s).ports } := by
  have same : s.tenants.wr t (some x) = s.tenants := by
    rw [← hx, Table.wr_rd_self]
  obtain ⟨al, ch, re, ex, da, ta, hh, jl, acl, lj, ac⟩ := x
  simp only [State.exhaustPool, hx]
  cases hr : reaches al ch <;> cases ex
  · simp [same]
  · simp [same]
  · rfl
  · simp [same]

theorem State.chargeSides_eq {colour : Bool} {sides charge : Nat} {a : Account} (hj : s.job h = some j)
    (ha : s.account j.owner = some a) (hx : s.tenants.rd j.owner.tenant = some x)
    (hn : (s.accounts.map (·.key)).Nodup) (hc : charge = sideCharge x.tariff j cam colour sides) :
    s.chargeSides h j cam colour sides = { s with
      jobs := s.jobs.wr h.record ⟨h.generation, some (j.chargedFor colour sides charge)⟩
      accounts := s.accounts.map fun b => if b.key = j.owner then { a with
        reserved := a.reserved - min charge j.reserved, charged := satAdd unitMax a.charged charge
        exhausted := a.exhausted || reaches a.allowance (satAdd unitMax a.charged charge) } else b
      tenants := s.tenants.wr j.owner.tenant (some { x with
        poolReserved := x.poolReserved - min charge j.reserved
        poolCharged := satAdd unitMax x.poolCharged charge
        poolExhausted := x.poolExhausted || reaches x.poolAllowance (satAdd unitMax x.poolCharged charge) })
      ports := (if x.poolExhausted = false ∧ reaches x.poolAllowance (satAdd unitMax x.poolCharged charge) = true
        then (if a.exhausted = false ∧ reaches a.allowance (satAdd unitMax a.charged charge) = true
          then s.raise .accountExhausted (toTenant j.owner.tenant) else s).raise .poolExhausted
            (toTenantAndFacilities j.owner.tenant)
        else if a.exhausted = false ∧ reaches a.allowance (satAdd unitMax a.charged charge) = true
          then s.raise .accountExhausted (toTenant j.owner.tenant) else s).ports } := by
  subst hc
  simp only [State.chargeSides, hx]
  generalize sideCharge x.tariff j cam colour sides = charge
  rw [State.setJob_of_job hj]
  rw [State.modTenant_of_some (x := x)]
  on_goal 2 => exact hx
  generalize hv : State.setTenant _ _ _ = v
  have keys : (v.accounts.map (·.key)) = s.accounts.map (·.key) := by
    rw [← hv]
    simp only [State.setTenant_accounts, State.modAccount_accounts, List.map_map]
    refine List.map_congr_left fun b _ => ?_
    simp only [Function.comp]
    split <;> rfl
  have hva : v.account j.owner = some { a with
      reserved := a.reserved - min charge j.reserved, charged := satAdd unitMax a.charged charge } := by
    rw [← hv]
    refine (State.account_modAccount (s := s) (fun a => { a with
      reserved := a.reserved - min charge j.reserved, charged := satAdd unitMax a.charged charge }) (fun _ => rfl)
      j.owner j.owner).trans ?_
    rw [ha, Option.map_some, if_pos (State.account_key ha)]
  rw [State.exhaustAccount_eq (keys ▸ hn) hva]
  have hvx : v.tenants.rd j.owner.tenant = some { x with
      poolReserved := x.poolReserved - min charge j.reserved, poolCharged := satAdd unitMax x.poolCharged charge } := by
    rw [← hv, State.setTenant_tenants, Table.rd_wr_self]
  rw [State.exhaustPool_eq (x := { x with
      poolReserved := x.poolReserved - min charge j.reserved, poolCharged := satAdd unitMax x.poolCharged charge })]
  on_goal 2 => exact hvx
  have hacc : (v.accounts.map fun b => if b.key = j.owner then { a with
        reserved := a.reserved - min charge j.reserved, charged := satAdd unitMax a.charged charge
        exhausted := a.exhausted || reaches a.allowance (satAdd unitMax a.charged charge) } else b)
      = s.accounts.map fun b => if b.key = j.owner then { a with
        reserved := a.reserved - min charge j.reserved, charged := satAdd unitMax a.charged charge
        exhausted := a.exhausted || reaches a.allowance (satAdd unitMax a.charged charge) } else b := by
    rw [← hv]
    exact map_account_twice s.accounts j.owner fun _ => rfl
  simp only [hacc]
  have htab : v.tenants = s.tenants.wr j.owner.tenant (some { x with
      poolReserved := x.poolReserved - min charge j.reserved, poolCharged := satAdd unitMax x.poolCharged charge }) := by
    rw [← hv]
    rfl
  simp only [htab, Table.wr_wr_self]
  rw [← hv]
  by_cases h1 : a.exhausted = false ∧ reaches a.allowance (satAdd unitMax a.charged charge) = true <;>
    by_cases h2 : x.poolExhausted = false ∧ reaches x.poolAllowance (satAdd unitMax x.poolCharged charge) = true <;>
    simp only [h1, h2, and_self, if_true, if_false] <;> rfl

/-! ### Handles leaving the lists, and records freed (R60, R72, R73) -/

theorem State.forgotten_of_none (hx : s.sessions.rd p = none) : s.forgotten h p = none := by
  simp only [State.forgotten, hx, Option.map_none]

theorem State.forgotten_of_some {x : Session} (hx : s.sessions.rd p = some x) :
    s.forgotten h p = some (x.forget h (s.activeJob p).isSome (((s.enrolled p).map (·.descriptor.window)).getD 0)) := by
  simp only [State.forgotten, hx, Option.map_some]

theorem State.forget_sessions (p : PrinterNo) : (s.forget h).sessions.rd p = (s.forgotten h p).map (·.1) := by
  simp only [State.forget, Table.rd_tab]

theorem State.forget_positions (p : PrinterNo) : (s.forget h).positions.rd p =
    if (s.forgotten h p).any (·.2) then (s.positions.rd p).withMark .showList true else s.positions.rd p := by
  simp only [State.forget, Table.rd_tab]

/-- Whatever becomes of the session, the handle has left its lists and nothing else has. -/
theorem Session.forget_fields (x : Session) (h : Handle) (active : Bool) (window : Nat) :
    (x.forget h active window).1.account = x.account
      ∧ (x.forget h active window).1.release = x.release.filter (· ≠ h)
      ∧ (x.forget h active window).1.eligible = x.eligible.map fun e => if e = some h then none else e := by
  unfold Session.forget
  dsimp only
  split <;> exact ⟨rfl, rfl, rfl⟩

theorem State.freeRecord_of_none (hn : s.jobAt n = none) : s.freeRecord n = s := by
  simp only [State.freeRecord, hn]

/-- A record freed, field by field. The account's and the tenant's counts are written by `State.uncountHeld` and
`State.modTenant`. -/
theorem State.freeRecord_eq (hj : s.jobAt n = some j) : s.freeRecord n = { s with
    sessions := (s.forget (s.handleOf n)).sessions
    positions := (s.forget (s.handleOf n)).positions
    accounts := if j.state = .held then s.accounts.map fun a =>
      if a.key = j.owner then { a with heldJobs := a.heldJobs - 1 } else a else s.accounts
    tenants := (s.modTenant j.owner.tenant fun t => { t with liveJobs := t.liveJobs - 1 }).tenants
    submission := s.submission.filter (· ≠ n)
    completions := s.completions.wr j.owner.tenant ((s.completions.rd j.owner.tenant).filter (· ≠ n))
    jobs := s.jobs.wr n ⟨(s.jobs.rd n).generation + 1, none⟩
    freeList := s.freeList ++ [n] } := by
  have tenants (v : State) (hv : v.tenants = s.tenants) (f : Tenant → Tenant) :
      v.modTenant j.owner.tenant f = { v with tenants := (s.modTenant j.owner.tenant f).tenants } := by
    cases hx : s.tenants.rd j.owner.tenant with
    | none =>
      rw [State.modTenant_of_none (hv ▸ hx), State.modTenant_of_none hx, ← hv]
    | some x =>
      rw [State.modTenant_of_some (hv ▸ hx), State.modTenant_of_some hx, State.setTenant, State.setTenant, hv]
  simp only [State.freeRecord, hj]
  split
  · rw [tenants ((s.forget (s.handleOf n)).uncountHeld j.owner) rfl]
    rfl
  · rw [tenants (s.forget (s.handleOf n)) rfl]
    rfl

theorem State.expire_eq : s.expire n j = ((State.forget { s with
      jobs := s.jobs.wr n ⟨(s.jobs.rd n).generation, some { j with state := .complete .expired s.lastMinuteMark }⟩
      accounts := s.accounts.map fun a => if a.key = j.owner then { a with heldJobs := a.heldJobs - 1 } else a
      submission := s.submission.filter (· ≠ n)
      completions := s.completions.wr j.owner.tenant (s.completions.rd j.owner.tenant ++ [n]) }
    (s.handleOf n)).raise .jobExpired (toTenant j.owner.tenant)).raise .jobFinished (toTenant j.owner.tenant) := rfl

theorem State.submit_eq {rest : List RecordNo} (hx : s.tenants.rd j.owner.tenant = some x) :
    s.submit n rest j = { s with
      freeList := rest, submission := s.submission ++ [n]
      jobs := s.jobs.wr n ⟨(s.jobs.rd n).generation, some j⟩
      accounts := s.accounts.map fun a => if a.key = j.owner then { a with heldJobs := a.heldJobs + 1 } else a
      tenants := s.tenants.wr j.owner.tenant (some { x with liveJobs := x.liveJobs + 1 }) } := by
  simp only [State.submit]
  rw [State.modTenant_of_some (x := x)]
  · rfl
  · exact hx

end Sys2Proof.Machine
end

section
/-! SUPPORT. The books and the reservations under a change of one job record, and under a change of every job record
that keeps owner, reservation and standing. -/

namespace Sys2Proof.Machine

variable {s t u : State} {p q : PrinterNo} {h g : Handle} {j : Job} {cam : Bool} {e : Enrolled}
  {n m : RecordNo} {key : AccountKey} {r : JobRecord}

/-! ### What a record counts for -/

/-- What a record counts in `State.countJobs`. -/
def JobRecord.hits (r : JobRecord) (which : Job → Bool) : Nat := if r.job.any which then 1 else 0

/-- What a record counts in `State.reservedByJobs`. -/
def JobRecord.holds (r : JobRecord) (key : AccountKey) : Nat :=
  match r.job with
  | some j => if j.owner = key then j.reserved else 0
  | none => 0

theorem State.countJobs_eq (which : Job → Bool) :
    s.countJobs which = (s.jobs.cells.map fun r => r.hits which).sum := by
  unfold State.countJobs JobRecord.hits
  induction s.jobs.cells with
  | nil => rfl
  | cons r rs ih =>
    rw [List.filter_cons, List.map_cons, List.sum_cons]
    split
    · rw [List.length_cons, ih, Nat.add_comm]
    · rw [ih, Nat.zero_add]

theorem State.reservedByJobs_eq (key : AccountKey) :
    s.reservedByJobs key = (s.jobs.cells.map fun r => r.holds key).sum := by
  unfold State.reservedByJobs JobRecord.holds
  congr 2

/-- A sum over a table changes by what changes at the place written. -/
theorem Table.sum_wr {k : Nat} {α : Type} (t : Table k α) (i : Fin k) (a : α) (F : α → Nat) :
    ((t.wr i a).cells.map F).sum + F (t.rd i) = (t.cells.map F).sum + F a := by
  obtain ⟨l, rfl⟩ := t
  simp only [Table.wr, Table.rd]
  obtain ⟨i, hi⟩ := i
  have hl : l = l.take i ++ l[i] :: l.drop (i + 1) := by
    rw [List.getElem_cons_drop, List.take_append_drop]
  have hs : l.set i a = l.take i ++ a :: l.drop (i + 1) := List.set_eq_take_append_cons_drop.trans (if_pos hi)
  rw [hs, List.map_append, List.map_cons, List.sum_append, List.sum_cons]
  conv_rhs => rw [hl, List.map_append, List.map_cons, List.sum_append, List.sum_cons]
  dsimp only
  omega

theorem State.countJobs_wr (hj : t.jobs = s.jobs.wr n r) (which : Job → Bool) :
    t.countJobs which + (s.jobs.rd n).hits which = s.countJobs which + r.hits which := by
  rw [State.countJobs_eq, State.countJobs_eq, hj]
  exact Table.sum_wr _ _ _ fun r : JobRecord => r.hits which

theorem State.reservedByJobs_wr (hj : t.jobs = s.jobs.wr n r) (key : AccountKey) :
    t.reservedByJobs key + (s.jobs.rd n).holds key = s.reservedByJobs key + r.holds key := by
  rw [State.reservedByJobs_eq, State.reservedByJobs_eq, hj]
  exact Table.sum_wr _ _ _ fun r : JobRecord => r.holds key

/-- A record's own part is at most the whole. -/
theorem Table.le_sum {k : Nat} {α : Type} (t : Table k α) (i : Fin k) (F : α → Nat) :
    F (t.rd i) ≤ (t.cells.map F).sum :=
  List.single_le_sum (fun _ _ => Nat.zero_le _) _ (List.mem_map_of_mem (Table.mem_cells.mpr ⟨i, rfl⟩))

theorem State.hits_le_countJobs (which : Job → Bool) : (s.jobs.rd n).hits which ≤ s.countJobs which := by
  rw [State.countJobs_eq]
  exact Table.le_sum _ _ fun r : JobRecord => r.hits which

theorem State.holds_le_reservedByJobs (key : AccountKey) : (s.jobs.rd n).holds key ≤ s.reservedByJobs key := by
  rw [State.reservedByJobs_eq]
  exact Table.le_sum _ _ fun r : JobRecord => r.holds key

theorem JobRecord.hits_some {gen : Fin 64} {which : Job → Bool} :
    (⟨gen, some j⟩ : JobRecord).hits which = if which j then 1 else 0 := rfl

theorem JobRecord.hits_none {gen : Fin 64} {which : Job → Bool} : (⟨gen, none⟩ : JobRecord).hits which = 0 := rfl

theorem JobRecord.holds_some {gen : Fin 64} :
    (⟨gen, some j⟩ : JobRecord).holds key = if j.owner = key then j.reserved else 0 := rfl

theorem JobRecord.holds_none {gen : Fin 64} : (⟨gen, none⟩ : JobRecord).holds key = 0 := rfl

/-! ### The links of active jobs -/

/-- The two directions of the link as one equivalence. -/
theorem State.activeLinked_iff : s.ActiveLinked ↔
    (∀ p h, (s.activeAt h p).isSome = true ↔ s.activeJob p = some h)
      ∧ ∀ p e, s.enrolled p = some e → e.service = .disabled → e.activeJob = none := by
  constructor
  · rintro ⟨h1, h2, h3⟩
    refine ⟨fun p h => ⟨fun ha => ?_, fun ha => ?_⟩, h3⟩
    · obtain ⟨j, hj⟩ := Option.isSome_iff_exists.mp ha
      obtain ⟨hj, cam, ha⟩ := State.activeAt_eq_some.mp hj
      rw [h1 _ j p cam (State.jobAt_of_job hj) ha, State.handleOf_of_job hj]
    · obtain ⟨j, cam, hj, hs⟩ := h2 p h ha
      rw [State.activeAt_eq_some.mpr ⟨hj, cam, hs⟩]
      rfl
  · rintro ⟨h1, h3⟩
    refine ⟨fun n j p cam hj ha => ?_, fun p h ha => ?_, h3⟩
    · refine (h1 p (s.handleOf n)).mp ?_
      rw [State.activeAt_eq_some.mpr ⟨State.job_handleOf.trans hj, cam, ha⟩]
      rfl
    · obtain ⟨j, hj⟩ := Option.isSome_iff_exists.mp ((h1 p h).mpr ha)
      obtain ⟨hj, cam, hs⟩ := State.activeAt_eq_some.mp hj
      exact ⟨j, cam, hj, hs⟩

theorem State.job_wr_of_ne (hj : t.jobs = s.jobs.wr n r) (hn : h.record ≠ n) : t.job h = s.job h := by
  simp only [State.job, hj, Table.rd_wr_of_ne _ _ (Ne.symm hn)]

theorem State.activeAt_congr (hj : t.job h = s.job h) (p : PrinterNo) : t.activeAt h p = s.activeAt h p := by
  simp only [State.activeAt, hj]

/-! ### One record changed -/

/-- What the lists of the pool ask of a change of one job record (R59, R63, R76). -/
structure State.Relisted (s t : State) (n : RecordNo) (r : JobRecord) : Prop where
  freeNodup : t.freeList.Nodup
  submissionNodup : t.submission.Nodup
  completionsNodup : ∀ t', (t.completions.rd t').Nodup
  free : ∀ m, m ∈ t.freeList ↔ if m = n then r.job = none else m ∈ s.freeList
  submission : ∀ m, m ∈ t.submission ↔
    if m = n then ∃ j, r.job = some j ∧ j.state.unfinished = true else m ∈ s.submission
  completions : ∀ m t', m ∈ t.completions.rd t' ↔
    if m = n then ∃ j, r.job = some j ∧ j.state.unfinished = false ∧ j.owner.tenant = t' else m ∈ s.completions.rd t'

/-- What the links of active jobs ask of a change of one job record (R1, R62). -/
structure State.Relinked (s t : State) (n : RecordNo) : Prop where
  other : ∀ p h, h.record ≠ n → (t.activeJob p = some h ↔ s.activeJob p = some h)
  self : ∀ p h, h.record = n → ((t.activeAt h p).isSome = true ↔ t.activeJob p = some h)
  disabled : ∀ p e, t.enrolled p = some e → e.service = .disabled → e.activeJob = none

/-- What the books ask of a change of one job record, with the lists, counts, sessions and links that go with it. -/
structure State.Moved (s t : State) (n : RecordNo) (r : JobRecord) (f : Account → Account) : Prop where
  jobs : t.jobs = s.jobs.wr n r
  accounts : t.accounts = s.accounts.map f
  key : ∀ a, (f a).key = a.key
  session : ∀ a, (f a).session = a.session
  held : ∀ a ∈ s.accounts, (f a).heldJobs + (s.jobs.rd n).hits (fun j => decide (j.owner = a.key) && decide (j.state = .held))
    = a.heldJobs + r.hits fun j => decide (j.owner = a.key) && decide (j.state = .held)
  tenants : ∀ t' x', t.tenants.rd t' = some x' → ∃ x, s.tenants.rd t' = some x
    ∧ x'.liveJobs + (s.jobs.rd n).hits (fun j => decide (j.owner.tenant = t'))
      = x.liveJobs + r.hits (fun j => decide (j.owner.tenant = t'))
    ∧ x'.liveJobs ≤ x'.jobLimit ∧ x'.accountCount = x.accountCount ∧ x'.accountLimit = x.accountLimit
  defined : ∀ t', (s.tenants.rd t').isSome = true → (t.tenants.rd t').isSome = true
  owner : ∀ j, r.job = some j → (s.tenants.rd j.owner.tenant).isSome = true
    ∧ (j.state.unfinished = true → (s.account j.owner).isSome = true)
  lists : s.Relisted t n r
  sessions : ∀ p, Option.Rel Session.Soft (s.sessions.rd p) (t.sessions.rd p)
  apart : ∀ p y h, t.sessions.rd p = some y → h ∈ y.release → h.record ≠ n
  links : s.Relinked t n

variable {f : Account → Account}

theorem State.Moved.jobAt (h : s.Moved t n r f) (m : RecordNo) : t.jobAt m = if n = m then r.job else s.jobAt m := by
  simp only [State.jobAt, h.jobs, Table.rd_wr]
  split <;> rfl

theorem State.account_map (hacc : t.accounts = s.accounts.map f) (hkey : ∀ a, (f a).key = a.key) (key : AccountKey) :
    t.account key = (s.account key).map f := by
  have e : (fun a => decide (Account.key a = key)) ∘ f = fun a => decide (a.key = key) := by
    funext a
    simp only [Function.comp, hkey]
  simp only [State.account, hacc, List.find?_map, e]

theorem State.Moved.poolListed (h : s.Moved t n r f) (hb : s.PoolListed) : t.PoolListed := by
  obtain ⟨-, -, -, h1, h2, h3⟩ := hb
  refine ⟨h.lists.freeNodup, h.lists.submissionNodup, h.lists.completionsNodup, fun m => ?_, fun m => ?_, fun m t' => ?_⟩
  · rw [h.lists.free, h.jobAt]
    by_cases e : n = m
    · rw [if_pos e, if_pos e.symm]
    · rw [if_neg e, if_neg (Ne.symm e), h1]
  · rw [h.lists.submission, h.jobAt]
    by_cases e : n = m
    · rw [if_pos e, if_pos e.symm]
    · rw [if_neg e, if_neg (Ne.symm e), h2]
  · rw [h.lists.completions, h.jobAt]
    by_cases e : n = m
    · rw [if_pos e, if_pos e.symm]
    · rw [if_neg e, if_neg (Ne.symm e), h3]

theorem State.Moved.activeLinked (h : s.Moved t n r f) (hb : s.ActiveLinked) : t.ActiveLinked := by
  obtain ⟨h1, -⟩ := State.activeLinked_iff.mp hb
  refine State.activeLinked_iff.mpr ⟨fun p g => ?_, h.links.disabled⟩
  by_cases e : g.record = n
  · exact h.links.self p g e
  · rw [State.activeAt_congr (State.job_wr_of_ne h.jobs e), h.links.other p g e]
    exact h1 p g

theorem State.Moved.owned (h : s.Moved t n r f) (hb : s.Owned) : t.Owned := by
  obtain ⟨h1, h2, h3, h4⟩ := hb
  have keys : (t.accounts.map (·.key)) = s.accounts.map (·.key) := by
    rw [h.accounts, List.map_map]
    exact List.map_congr_left fun a _ => h.key a
  have some (key : AccountKey) (hs : (s.account key).isSome = true) : (t.account key).isSome = true := by
    rw [State.account_map h.accounts h.key, Option.isSome_map]
    exact hs
  refine ⟨keys ▸ h1, fun a ha => ?_, fun m j hj => ?_, fun m j hj hu => ?_⟩
  · rw [h.accounts] at ha
    obtain ⟨b, hb, rfl⟩ := List.mem_map.mp ha
    rw [h.key]
    exact h.defined _ (h2 b hb)
  · rw [h.jobAt] at hj
    split at hj
    · exact h.defined _ (h.owner j hj).1
    · exact h.defined _ (h3 m j hj)
  · rw [h.jobAt] at hj
    split at hj
    · exact some _ ((h.owner j hj).2 hu)
    · exact some _ (h4 m j hj hu)

theorem State.Moved.counted (h : s.Moved t n r f) (hb : s.Counted) : t.Counted := by
  obtain ⟨h1, h2⟩ := hb
  constructor
  · intro t' x' hx'
    obtain ⟨x, hx, hlive, hlim, hcount, haccs⟩ := h.tenants t' x' hx'
    obtain ⟨k1, -, k3, k4⟩ := h1 t' x hx
    have hc := State.countJobs_wr h.jobs fun j => decide (j.owner.tenant = t')
    refine ⟨by omega, hlim, ?_, by omega⟩
    rw [hcount, k3, h.accounts, List.filter_map, List.length_map]
    congr 2
    funext a
    simp only [Function.comp, h.key]
  · intro a ha
    rw [h.accounts] at ha
    obtain ⟨b, hb, rfl⟩ := List.mem_map.mp ha
    have hc := State.countJobs_wr h.jobs fun j => decide (j.owner = b.key) && decide (j.state = .held)
    have hh := h.held b hb
    have hk := h2 b hb
    simp only [h.key]
    omega

theorem State.Moved.sessionsKept (h : s.Moved t n r f) (hb : s.SessionsKept) : t.SessionsKept := by
  obtain ⟨h1, h2, h3, h4⟩ := hb
  have back {p : PrinterNo} {y : Session} (hy : t.sessions.rd p = some y) :
      ∃ x, s.sessions.rd p = some x ∧ x.Soft y := by
    have hp := h.sessions p
    rw [hy] at hp
    cases hx : s.sessions.rd p with
    | none =>
      rw [hx] at hp
      cases hp
    | some x =>
      rw [hx] at hp
      cases hp with
      | some hxy => exact ⟨x, rfl, hxy⟩
  refine ⟨fun p y hy => ?_, fun a ha p hp => ?_, fun p y hy => ?_, fun p q y z g hy hz gy gz => ?_⟩
  · obtain ⟨x, hx, ha, -⟩ := back hy
    obtain ⟨a, hacc, hs⟩ := h1 p x hx
    refine ⟨f a, ?_, (h.session a).trans hs⟩
    rw [ha, State.account_map h.accounts h.key, hacc]
    rfl
  · rw [h.accounts] at ha
    obtain ⟨b, hb, rfl⟩ := List.mem_map.mp ha
    rw [h.session] at hp
    obtain ⟨x, hx, hxa⟩ := h2 b hb p hp
    have hrel := h.sessions p
    rw [hx] at hrel
    cases hy : t.sessions.rd p with
    | none =>
      rw [hy] at hrel
      cases hrel
    | some y =>
      rw [hy] at hrel
      cases hrel with
      | some hxy => exact ⟨y, rfl, (hxy.1.trans hxa).trans (h.key b).symm⟩
  · obtain ⟨x, hx, ha, hsub⟩ := back hy
    obtain ⟨hn, hl, hh⟩ := h3 p x hx
    refine ⟨hn.sublist hsub, hsub.length_le.trans hl, fun g hg => ?_⟩
    obtain ⟨j, hj, hs, ho⟩ := hh g (hsub.subset hg)
    refine ⟨j, ?_, hs, ho.trans ha.symm⟩
    rw [State.job_wr_of_ne h.jobs (h.apart p y g hy hg)]
    exact hj
  · obtain ⟨x, hx, -, hsub⟩ := back hy
    obtain ⟨w, hw, -, hsub'⟩ := back hz
    exact h4 p q x w g hx hw (hsub.subset gy) (hsub'.subset gz)

theorem State.Moved.books (h : s.Moved t n r f) (hb : s.BooksKept) : t.BooksKept := by
  obtain ⟨h1, h2, h3, h4, h5⟩ := hb
  exact ⟨h.poolListed h1, h.activeLinked h2, h.owned h3, h.counted h4, h.sessionsKept h5⟩

/-! ### Reservations under the change of one record -/

/-- The reservation of a record that counts for a tenant's pool. -/
def JobRecord.holdsOf (r : JobRecord) (t : TenantNo) : Nat :=
  match r.job with
  | some j => if j.owner.tenant = t then j.reserved else 0
  | none => 0

/-- What a record holds, summed over the accounts of a tenant: its holding for the tenant, when its account is in the
table. -/
theorem sum_holds {as : List Account} (hn : (as.map (·.key)).Nodup) {r : JobRecord} {t : TenantNo}
    (hr : ∀ j, r.job = some j → j.reserved ≠ 0 → ∃ a ∈ as, a.key = j.owner) :
    (as.map fun a => if a.key.tenant = t then r.holds a.key else 0).sum = r.holdsOf t := by
  obtain ⟨gen, o⟩ := r
  cases o with
  | none => simp [JobRecord.holds, JobRecord.holdsOf]
  | some j =>
    by_cases hz : j.reserved = 0
    · simp [JobRecord.holds, JobRecord.holdsOf, hz]
    · have hmem : j.owner ∈ as.map (·.key) := List.mem_map.mpr (hr j rfl hz)
      have hsum := sum_map_add_of_one hn hmem (G := fun _ => 0) (d := JobRecord.holdsOf ⟨gen, some j⟩ t)
        (F := fun k => if k.tenant = t then JobRecord.holds ⟨gen, some j⟩ k else 0)
        (by simp [JobRecord.holds, JobRecord.holdsOf]) fun k hk => by simp [JobRecord.holds, Ne.symm hk]
      rw [List.map_map] at hsum
      simpa [Function.comp_def] using hsum.symm

/-- What the reservations ask of a change of one job record. -/
structure State.Settled (s t : State) (n : RecordNo) (r : JobRecord) (f : Account → Account) : Prop where
  jobs : t.jobs = s.jobs.wr n r
  accounts : t.accounts = s.accounts.map f
  key : ∀ a, (f a).key = a.key
  reserved : ∀ a ∈ s.accounts, (f a).reserved + (s.jobs.rd n).holds a.key = a.reserved + r.holds a.key
  tenants : ∀ t' x', t.tenants.rd t' = some x' → ∃ x, s.tenants.rd t' = some x
    ∧ x'.poolReserved + (s.jobs.rd n).holdsOf t' = x.poolReserved + r.holdsOf t'
  idle : ∀ j, r.job = some j → j.state.active = none → j.reserved = 0
  owner : ∀ j, r.job = some j → j.reserved ≠ 0 → ∃ a ∈ s.accounts, a.key = j.owner

/-- A job that holds a reservation is active, so that its account is in the table. -/
theorem State.ReservationsAgree.owner (hr : s.ReservationsAgree) (ho : s.Owned) (hj : s.jobAt n = some j)
    (h0 : j.reserved ≠ 0) : ∃ a ∈ s.accounts, a.key = j.owner := by
  obtain ⟨hi, -, -⟩ := hr
  obtain ⟨-, -, -, ha⟩ := ho
  have hu : j.state.unfinished = true := by
    cases hs : j.state with
    | complete o c => exact absurd (hi n j hj (by rw [hs]; rfl)) h0
    | _ => rfl
  obtain ⟨a, hfound⟩ := Option.isSome_iff_exists.mp (ha n j hj hu)
  exact ⟨a, State.account_mem hfound, State.account_key hfound⟩

theorem State.Settled.reservations (h : s.Settled t n r f) (ho : s.Owned) (hr : s.ReservationsAgree) :
    t.ReservationsAgree := by
  obtain ⟨h1, h2, h3⟩ := id hr
  refine ⟨fun m j hj hi => ?_, fun a ha => ?_, fun t' x' hx' => ?_⟩
  · simp only [State.jobAt, h.jobs, Table.rd_wr] at hj
    split at hj
    · exact h.idle j hj hi
    · exact h1 m j hj hi
  · rw [h.accounts] at ha
    obtain ⟨b, hb, rfl⟩ := List.mem_map.mp ha
    have hw := State.reservedByJobs_wr h.jobs b.key
    have hb2 := h2 b hb
    have hres := h.reserved b hb
    rw [h.key]
    omega
  · obtain ⟨x, hx, hpool⟩ := h.tenants t' x' hx'
    have hold := sum_holds (t := t') ho.1 (r := s.jobs.rd n) fun j hj h0 => hr.owner ho hj h0
    have hnew := sum_holds (t := t') ho.1 h.owner
    have hsum : t.reservedByAccounts t' + (s.jobs.rd n).holdsOf t' = s.reservedByAccounts t' + r.holdsOf t' := by
      rw [← hold, ← hnew]
      unfold State.reservedByAccounts
      rw [h.accounts, List.map_map, ← List.sum_map_add, ← List.sum_map_add]
      refine congrArg List.sum (List.map_congr_left fun a ha => ?_)
      have hres := h.reserved a ha
      simp only [Function.comp, h.key]
      split
      · exact hres
      · rfl
    have hx3 := h3 t' x hx
    omega

end Sys2Proof.Machine
end

section
/-! SUPPORT. The blocks beside the books under the moves of a job, of a session and of a record: clock, port table,
callout lines, sessions' printers, slots and reorders. -/

namespace Sys2Proof.Machine

variable {s t u : State} {p q : PrinterNo} {h g : Handle} {j : Job} {cam : Bool} {e : Enrolled}
  {n m : RecordNo} {key : AccountKey}

/-- `State.Keeps` without the books and the reservations. -/
structure State.KeepsBlocks (s t : State) : Prop where
  pending : t.pending = s.pending
  clock : s.ClockInRange → t.ClockInRange
  ports : s.PortsBound → t.PortsBound
  lines : s.LinesFollow → t.LinesFollow
  served : s.SessionsServed → t.SessionsServed
  slots : s.SlotsDerived → t.SlotsDerived
  reorders : s.SlotsDerived → s.ReordersKept → t.ReordersKept

theorem State.KeepsBlocks.refl (s : State) : s.KeepsBlocks s := ⟨rfl, id, id, id, id, id, fun _ => id⟩

theorem State.KeepsBlocks.trans (h : s.KeepsBlocks t) (h' : t.KeepsBlocks u) : s.KeepsBlocks u where
  pending := h'.pending.trans h.pending
  clock i := h'.clock (h.clock i)
  ports i := h'.ports (h.ports i)
  lines i := h'.lines (h.lines i)
  served i := h'.served (h.served i)
  slots i := h'.slots (h.slots i)
  reorders i k := h'.reorders (h.slots i) (h.reorders i k)

theorem State.Keeps.blocks (h : s.Keeps t) : s.KeepsBlocks t :=
  ⟨h.pending, h.clock, h.ports, h.lines, h.served, h.slots, h.reorders⟩

theorem State.KeepsBlocks.keeps (h : s.KeepsBlocks t) (books : s.BooksKept → t.BooksKept)
    (reserved : s.BooksKept → s.ReservationsAgree → t.ReservationsAgree) : s.Keeps t :=
  ⟨h.pending, h.clock, h.ports, h.lines, h.served, h.slots, h.reorders, books, reserved⟩

/-! ### One block at a time -/

/-- Only the books read the accounts, the job records and the lists of the pool. -/
theorem State.KeepsBlocks.ofLists (as : List Account) (js : Table 1024 JobRecord) (fl sub : List RecordNo)
    (com : Table 16 (List RecordNo)) :
    s.KeepsBlocks { s with accounts := as, jobs := js, freeList := fl, submission := sub, completions := com } :=
  ⟨rfl, id, id, id, id, id, fun _ => id⟩

theorem State.KeepsBlocks.ofTenants {ts : Table 16 (Option Tenant)}
    (h : ∀ t, (s.tenants.rd t).isSome = true → (ts.rd t).isSome = true) : s.KeepsBlocks { s with tenants := ts } :=
  ⟨rfl, id, fun ⟨h1, h2, h3⟩ => ⟨h1, h2, fun n t hn => h t (h3 n t hn)⟩, id, id, id, fun _ => id⟩

theorem State.KeepsBlocks.ofSessions {ss : Table 64 (Option Session)}
    (h : ∀ p y, ss.rd p = some y → ∃ x, s.sessions.rd p = some x ∧ y.account = x.account) :
    s.KeepsBlocks { s with sessions := ss } := by
  refine ⟨rfl, id, id, id, fun hs p y hy => ?_, id, fun _ => id⟩
  obtain ⟨x, hx, ha⟩ := h p y hy
  obtain ⟨e, he, hv, hg⟩ := hs p x hx
  exact ⟨e, he, hv, ha ▸ hg⟩

/-- A printer's record whose slots stay; where a session stands, it stays IN_SERVICE and keeps its sharing. -/
theorem State.setEnrolled_blocks {e' : Enrolled} (he : s.printers.rd p = .enrolled e) (hslots : e'.slots = e.slots)
    (hserved : ∀ x, s.sessions.rd p = some x → e.service = .inService → e.sharing.gives x.account.tenant = true →
      e'.service = .inService ∧ e'.sharing.gives x.account.tenant = true) :
    s.KeepsBlocks (s.setEnrolled p e') := by
  have hen (q : PrinterNo) : (s.setEnrolled p e').enrolled q = if p = q then some e' else s.enrolled q := by
    simp only [State.enrolled, State.setEnrolled, State.setPrinter_printers, Table.rd_wr]
    split <;> rfl
  refine ⟨rfl, id, id, id, fun hs q x hx => ?_, fun hs q d hd => ?_, fun _ => id⟩
  · obtain ⟨d, hd, hv, hg⟩ := hs q x hx
    rw [hen]
    split
    · next hq =>
      subst hq
      rw [State.enrolled_eq_some, he] at hd
      cases hd
      obtain ⟨h1, h2⟩ := hserved x hx hv hg
      exact ⟨e', rfl, h1, h2⟩
    · exact ⟨d, hd, hv, hg⟩
  · rw [hen] at hd
    split at hd
    · cases hd
      rw [hslots]
      exact hs p e (State.enrolled_eq_some.mpr he)
    · exact hs q d hd

/-! ### The shared operations -/

theorem State.modAccount_blocks (key : AccountKey) (f : Account → Account) : s.KeepsBlocks (s.modAccount key f) :=
  .ofLists _ _ _ _ _

theorem State.setJob_blocks (n : RecordNo) (j : Job) : s.KeepsBlocks (s.setJob n j) := .ofLists _ _ _ _ _

theorem State.setTenant_blocks {v : TenantNo} (x : Tenant) : s.KeepsBlocks (s.setTenant v (some x)) :=
  .ofTenants fun w hw => by
    rw [Table.rd_wr]
    split
    · rfl
    · exact hw

theorem State.modTenant_blocks (v : TenantNo) (f : Tenant → Tenant) : s.KeepsBlocks (s.modTenant v f) := by
  unfold State.modTenant
  split
  · exact State.setTenant_blocks _
  · exact .refl s

theorem State.setPosition_keeps (p : PrinterNo) (x : Position) : s.Keeps (s.setPosition p x) :=
  .floor _ _ _ _ _ _ _ _ _ _

theorem State.setMark_keeps (p : PrinterNo) (kind : MarkKind) : s.Keeps (s.setMark p kind) :=
  State.setPosition_keeps _ _

theorem State.setEndSession_keeps (p : PrinterNo) (reason : EndReason) : s.Keeps (s.setEndSession p reason) :=
  State.setPosition_keeps _ _

theorem State.setChannel_keeps (c : ChannelNo) (x : Channel) : s.Keeps (s.setChannel c x) :=
  .floor _ _ _ _ _ _ _ _ _ _

theorem State.setLine_keeps (p : PrinterNo) (level : Bool) : s.Keeps (s.setLine p level) :=
  .floor _ _ _ _ _ _ _ _ _ _

/-- A session removed from the table. -/
theorem State.clearSession_blocks (p : PrinterNo) : s.KeepsBlocks (s.setSession p none) :=
  .ofSessions fun q y hy => by
    rw [Table.rd_wr] at hy
    split at hy
    · cases hy
    · exact ⟨y, hy, rfl⟩

theorem State.endSession_blocks (p : PrinterNo) (reason : EndReason) : s.KeepsBlocks (s.endSession p reason) := by
  unfold State.endSession
  split
  · exact .refl s
  · dsimp only
    split
    · exact ((s.clearSession_blocks p).trans (State.modAccount_blocks _ _)).trans
        (State.setEndSession_keeps p reason).blocks
    · exact (s.clearSession_blocks p).trans (State.modAccount_blocks _ _)

theorem State.forget_blocks (h : Handle) : s.KeepsBlocks (s.forget h) := by
  refine State.KeepsBlocks.trans (t := { s with sessions := (s.forget h).sessions }) (.ofSessions fun p y hy => ?_)
    (State.Keeps.floor _ _ _ _ _ _ _ _ _ _).blocks
  rw [State.forget_sessions, State.forgotten, Option.map_map, Option.map_eq_some_iff] at hy
  obtain ⟨x, hx, rfl⟩ := hy
  exact ⟨x, hx, (x.forget_fields h _ _).1⟩

theorem State.leavePrinter_blocks (p : PrinterNo) : s.KeepsBlocks (s.leavePrinter p) := by
  unfold State.leavePrinter
  split
  · exact .refl s
  · next e he =>
    rw [State.enrolled_eq_some] at he
    split
    · next hd =>
      refine .trans (State.setEnrolled_blocks (e' := { e with activeJob := none, service := .disabled }) he rfl
        fun x _ hv _ => ?_) (State.raise_keeps _ _).blocks
      rw [hd] at hv
      cases hv
    · exact State.setEnrolled_blocks he rfl fun x _ hv hg => ⟨hv, hg⟩

theorem State.giveBack_blocks (key : AccountKey) (d : Nat) : s.KeepsBlocks (s.giveBack key d) :=
  (State.modAccount_blocks _ _).trans (State.modTenant_blocks _ _)

theorem State.complete_blocks (n : RecordNo) (v : TenantNo) : s.KeepsBlocks (s.complete n v) := .ofLists _ _ _ _ _

theorem State.rehold_blocks (ht : s.rehold h p = some t) : s.KeepsBlocks t := by
  unfold State.rehold at ht
  split at ht
  · cases ht
  · cases ht
    exact ((((State.giveBack_blocks _ _).trans (State.setJob_blocks _ _)).trans (State.leavePrinter_blocks p)).trans
      (State.modAccount_blocks _ _)).trans (State.raise_keeps _ _).blocks

theorem State.finish_blocks {outcome : JobOutcome} (ht : s.finish h p outcome = some t) : s.KeepsBlocks t := by
  unfold State.finish at ht
  split at ht
  · cases ht
  · cases ht
    exact ((((State.giveBack_blocks _ _).trans (State.setJob_blocks _ _)).trans (State.leavePrinter_blocks p)).trans
      (State.complete_blocks _ _)).trans (State.raise_keeps _ _).blocks

theorem State.freeRecord_blocks (n : RecordNo) : s.KeepsBlocks (s.freeRecord n) := by
  unfold State.freeRecord
  split
  · exact .refl s
  · dsimp only
    split
    · exact (((State.forget_blocks _).trans (State.modAccount_blocks _ _)).trans (State.modTenant_blocks _ _)).trans
        (.ofLists _ _ _ _ _)
    · exact ((State.forget_blocks _).trans (State.modTenant_blocks _ _)).trans (.ofLists _ _ _ _ _)

theorem State.expire_blocks (n : RecordNo) (j : Job) : s.KeepsBlocks (s.expire n j) := by
  refine .trans (.trans (.trans ?_ (State.forget_blocks (s.handleOf n))) (State.raise_keeps _ _).blocks)
    (State.raise_keeps _ _).blocks
  exact .ofLists _ _ _ _ _

theorem State.submit_blocks (n : RecordNo) (rest : List RecordNo) (j : Job) : s.KeepsBlocks (s.submit n rest j) :=
  State.KeepsBlocks.trans (.ofLists _ _ _ _ _) (State.modTenant_blocks _ _)

theorem State.grant_blocks {est : Nat} (he : s.printers.rd p = .enrolled e) :
    s.KeepsBlocks (s.grant p e h j est) := by
  refine .trans (.trans ((State.modAccount_blocks _ _).trans ((State.modTenant_blocks _ _).trans
    (State.setJob_blocks _ _))) (State.setEnrolled_blocks (e' := { e with activeJob := some h }) (e := e) ?_ rfl
      fun x _ hv hg => ⟨hv, hg⟩)) (State.setMark_keeps p .grant).blocks
  obtain ⟨ts, htenants⟩ := (s.modAccount j.owner fun a =>
    { a with reserved := a.reserved + est, heldJobs := a.heldJobs - 1 }).modTenant_frame j.owner.tenant
      fun t => { t with poolReserved := t.poolReserved + est }
  rw [State.setJob_printers, htenants]
  exact he

theorem State.exhaustAccount_blocks (key : AccountKey) : s.KeepsBlocks (s.exhaustAccount key) := by
  unfold State.exhaustAccount
  split
  · exact .refl s
  · split
    · exact (State.modAccount_blocks _ _).trans (State.raise_keeps _ _).blocks
    · exact .refl s

theorem State.exhaustPool_blocks (v : TenantNo) : s.KeepsBlocks (s.exhaustPool v) := by
  unfold State.exhaustPool
  split
  · exact .refl s
  · split
    · exact (State.setTenant_blocks _).trans (State.raise_keeps _ _).blocks
    · exact .refl s

theorem State.chargeSides_blocks {colour : Bool} {sides : Nat} : s.KeepsBlocks (s.chargeSides h j cam colour sides) := by
  unfold State.chargeSides
  split
  · exact .refl s
  · exact ((((State.setJob_blocks _ _).trans (State.modAccount_blocks _ _)).trans (State.modTenant_blocks _ _)).trans
      (State.exhaustAccount_blocks _)).trans (State.exhaustPool_blocks _)

end Sys2Proof.Machine
end

section
/-! SUPPORT. Every invariant under a change of the accounts, of the tenants, of the sessions and of the service states
that leaves the job records alone. -/

namespace Sys2Proof.Machine

variable {s t u : State} {p q : PrinterNo} {h g : Handle} {j : Job} {cam : Bool} {e : Enrolled} {x : Session}
  {n m : RecordNo} {key : AccountKey} {f : Account → Account} {v w : TenantNo}

/-! ### Accounts changed -/

/-- Two accounts of one key are one. -/
theorem State.Owned.account_eq (ho : s.Owned) {a : Account} (ha : a ∈ s.accounts) : s.account a.key = some a := by
  obtain ⟨hn, -⟩ := ho
  have hs : (s.account a.key).isSome = true := by
    rw [State.account, List.find?_isSome]
    exact ⟨a, ha, by simp⟩
  obtain ⟨b, hb⟩ := Option.isSome_iff_exists.mp hs
  rw [hb, List.inj_on_of_nodup_map hn (State.account_mem hb) ha (State.account_key hb)]

theorem State.Owned.mapAccounts (ho : s.Owned) (hkey : ∀ a, (f a).key = a.key) :
    State.Owned { s with accounts := s.accounts.map f } := by
  obtain ⟨h1, h2, h3, h4⟩ := ho
  have keys : ((s.accounts.map f).map (·.key)) = s.accounts.map (·.key) := by
    rw [List.map_map]
    exact List.map_congr_left fun a _ => hkey a
  refine ⟨keys ▸ h1, fun a ha => ?_, h3, fun m j hj hu => ?_⟩
  · obtain ⟨b, hb, rfl⟩ := List.mem_map.mp ha
    rw [hkey]
    exact h2 b hb
  · rw [State.account_map (t := { s with accounts := s.accounts.map f }) rfl hkey, Option.isSome_map]
    exact h4 m j hj hu

theorem State.Counted.mapAccounts (hc : s.Counted) (hkey : ∀ a, (f a).key = a.key)
    (hheld : ∀ a, (f a).heldJobs = a.heldJobs) : State.Counted { s with accounts := s.accounts.map f } := by
  obtain ⟨h1, h2⟩ := hc
  constructor
  · intro v x hx
    obtain ⟨k1, k2, k3, k4⟩ := h1 v x hx
    refine ⟨k1, k2, k3.trans ?_, k4⟩
    rw [List.filter_map, List.length_map]
    congr 2
    funext a
    simp only [Function.comp, hkey]
  · intro a ha
    obtain ⟨b, hb, rfl⟩ := List.mem_map.mp ha
    rw [hheld, hkey]
    exact h2 b hb

theorem State.ReservationsAgree.mapAccounts (hr : s.ReservationsAgree) (hkey : ∀ a, (f a).key = a.key)
    (hres : ∀ a, (f a).reserved = a.reserved) : State.ReservationsAgree { s with accounts := s.accounts.map f } := by
  obtain ⟨h1, h2, h3⟩ := hr
  refine ⟨h1, fun a ha => ?_, fun v x hx => (h3 v x hx).trans ?_⟩
  · obtain ⟨b, hb, rfl⟩ := List.mem_map.mp ha
    rw [hres, hkey]
    exact h2 b hb
  · simp only [State.reservedByAccounts, List.map_map]
    refine congrArg List.sum (List.map_congr_left fun a _ => ?_)
    simp only [Function.comp, hkey, hres]

/-- Accounts that keep key, reserved amount, held count and session. -/
theorem State.Keeps.ofAccounts (hf : ∀ a, (f a).key = a.key ∧ (f a).reserved = a.reserved
      ∧ (f a).heldJobs = a.heldJobs ∧ (f a).session = a.session) :
    s.Keeps { s with accounts := s.accounts.map f } := by
  refine (State.KeepsBlocks.ofLists _ s.jobs s.freeList s.submission s.completions).keeps (fun hb => ?_) fun _ hr =>
    hr.mapAccounts (fun a => (hf a).1) fun a => (hf a).2.1
  obtain ⟨h1, h2, h3, h4, k1, k2, k3, k4⟩ := hb
  refine ⟨h1, h2, h3.mapAccounts fun a => (hf a).1, h4.mapAccounts (fun a => (hf a).1) fun a => (hf a).2.2.1,
    fun p x hx => ?_, fun a ha p hp => ?_, k3, k4⟩
  · obtain ⟨a, ha, hs⟩ := k1 p x hx
    refine ⟨f a, ?_, (hf a).2.2.2.trans hs⟩
    rw [State.account_map (t := { s with accounts := s.accounts.map f }) rfl fun a => (hf a).1, ha]
    rfl
  · obtain ⟨b, hb, rfl⟩ := List.mem_map.mp ha
    obtain ⟨hk, -, -, hs⟩ := hf b
    rw [hs] at hp
    obtain ⟨x, hx, hxa⟩ := k2 b hb p hp
    exact ⟨x, hx, hxa.trans hk.symm⟩

theorem State.modAccount_keeps (hf : ∀ a, (f a).key = a.key ∧ (f a).reserved = a.reserved
      ∧ (f a).heldJobs = a.heldJobs ∧ (f a).session = a.session) : s.Keeps (s.modAccount key f) :=
  .ofAccounts fun a => by
    split
    · exact hf a
    · exact ⟨rfl, rfl, rfl, rfl⟩

theorem State.exhaustAccount_keeps (key : AccountKey) : s.Keeps (s.exhaustAccount key) := by
  unfold State.exhaustAccount
  split
  · exact .refl s
  · split
    · refine State.Keeps.trans ?_ (State.raise_keeps _ _)
      exact State.modAccount_keeps fun _ => ⟨rfl, rfl, rfl, rfl⟩
    · exact .refl s

theorem State.renewWhere_keeps (which : Account → Bool) : s.Keeps (s.renewWhere which) :=
  .ofAccounts fun a => by
    split <;> exact ⟨rfl, rfl, rfl, rfl⟩

/-! ### Tenants changed -/

/-- A tenant record that keeps its counts and its pool's reserved amount, within its limits. -/
def Tenant.Soft (x y : Tenant) : Prop :=
  y.liveJobs = x.liveJobs ∧ y.accountCount = x.accountCount ∧ y.poolReserved = x.poolReserved
    ∧ (x.liveJobs ≤ x.jobLimit → y.liveJobs ≤ y.jobLimit) ∧ (x.accountCount ≤ x.accountLimit → y.accountCount ≤ y.accountLimit)

theorem State.setTenant_keeps {x y : Tenant} (hx : s.tenants.rd v = some x) (h : x.Soft y) :
    s.Keeps (s.setTenant v (some y)) := by
  obtain ⟨hl, hc, hp, hjobs, haccs⟩ := h
  have rd (w : TenantNo) (z : Tenant) (hz : (s.setTenant v (some y)).tenants.rd w = some z) :
      v = w ∧ z = y ∨ s.tenants.rd w = some z := by
    rw [State.setTenant_tenants, Table.rd_wr] at hz
    split at hz
    · next e => exact .inl ⟨e, (Option.some.inj hz).symm⟩
    · exact .inr hz
  have defined (w : TenantNo) (hw : (s.tenants.rd w).isSome = true) :
      ((s.setTenant v (some y)).tenants.rd w).isSome = true := by
    rw [State.setTenant_tenants, Table.rd_wr]
    split
    · rfl
    · exact hw
  refine (State.setTenant_blocks y).keeps (fun hb => ?_) fun _ hr => ?_
  · obtain ⟨h1, h2, ⟨o1, o2, o3, o4⟩, ⟨c1, c2⟩, h5⟩ := hb
    refine ⟨h1, h2, ⟨o1, fun a ha => defined _ (o2 a ha), fun m j hj => defined _ (o3 m j hj), o4⟩,
      ⟨fun w z hz => ?_, c2⟩, h5⟩
    obtain ⟨rfl, rfl⟩ | hz := rd w z hz
    · obtain ⟨k1, k2, k3, k4⟩ := c1 v x hx
      exact ⟨hl.trans k1, hjobs k2, hc.trans k3, haccs k4⟩
    · exact c1 w z hz
  · obtain ⟨r1, r2, r3⟩ := hr
    refine ⟨r1, r2, fun w z hz => ?_⟩
    obtain ⟨rfl, rfl⟩ | hz := rd w z hz
    · exact hp.trans (r3 v x hx)
    · exact r3 w z hz

theorem State.exhaustPool_keeps (v : TenantNo) : s.Keeps (s.exhaustPool v) := by
  unfold State.exhaustPool
  split
  · exact .refl s
  · next x hx =>
    split
    · refine State.Keeps.trans ?_ (State.raise_keeps _ _)
      exact State.setTenant_keeps hx ⟨rfl, rfl, rfl, id, id⟩
    · exact .refl s

/-- A test that no record in use passes is counted nowhere. -/
theorem State.countJobs_eq_zero {which : Job → Bool} (h : ∀ n j, s.jobAt n = some j → which j = false) :
    s.countJobs which = 0 := by
  rw [State.countJobs, List.length_eq_zero_iff, List.filter_eq_nil_iff]
  intro r hr
  obtain ⟨n, rfl⟩ := Table.mem_cells.mp hr
  cases hj : (s.jobs.rd n).job with
  | none => simp
  | some j => simpa using h n j hj

/-- What no job of an account holds sums to nothing. -/
theorem State.reservedByJobs_eq_zero (h : ∀ n j, s.jobAt n = some j → j.owner = key → j.reserved = 0) :
    s.reservedByJobs key = 0 := by
  rw [State.reservedByJobs_eq]
  refine List.sum_eq_zero fun k hk => ?_
  obtain ⟨r, hr, rfl⟩ := List.mem_map.mp hk
  obtain ⟨n, rfl⟩ := Table.mem_cells.mp hr
  unfold JobRecord.holds
  split
  · next j hj =>
    split
    · next ho => exact h n j hj ho
    · rfl
  · rfl

/-- A tenant not DEFINED has no account and no job, so that its new record starts with nothing (R42). -/
theorem State.newTenant_keeps {y : Tenant} (hv : s.tenants.rd v = none) (h0 : y.liveJobs = 0) (h1 : y.accountCount = 0)
    (h2 : y.poolReserved = 0) : s.Keeps (s.setTenant v (some y)) := by
  have rd (w : TenantNo) (z : Tenant) (hz : (s.setTenant v (some y)).tenants.rd w = some z) :
      v = w ∧ z = y ∨ s.tenants.rd w = some z := by
    rw [State.setTenant_tenants, Table.rd_wr] at hz
    split at hz
    · next e => exact .inl ⟨e, (Option.some.inj hz).symm⟩
    · exact .inr hz
  have defined (w : TenantNo) (hw : (s.tenants.rd w).isSome = true) :
      ((s.setTenant v (some y)).tenants.rd w).isSome = true := by
    rw [State.setTenant_tenants, Table.rd_wr]
    split
    · rfl
    · exact hw
  have absent (w : TenantNo) (hw : (s.tenants.rd w).isSome = true) : w ≠ v := by
    rintro rfl
    rw [hv] at hw
    cases hw
  refine (State.setTenant_blocks y).keeps (fun hb => ?_) fun hb hr => ?_
  · obtain ⟨k1, k2, ⟨o1, o2, o3, o4⟩, ⟨c1, c2⟩, k5⟩ := hb
    refine ⟨k1, k2, ⟨o1, fun a ha => defined _ (o2 a ha), fun m j hj => defined _ (o3 m j hj), o4⟩,
      ⟨fun w z hz => ?_, c2⟩, k5⟩
    obtain ⟨rfl, rfl⟩ | hz := rd w z hz
    · have hjobs := State.countJobs_eq_zero (s := s) (which := fun j => decide (j.owner.tenant = v)) fun n j hj => by
        simpa using absent _ (o3 n j hj)
      have haccs : s.accounts.filter (fun a => decide (a.key.tenant = v)) = [] := by
        rw [List.filter_eq_nil_iff]
        exact fun a ha => by simpa using absent _ (o2 a ha)
      refine ⟨h0.trans hjobs.symm, h0 ▸ Nat.zero_le _, h1.trans ?_, h1 ▸ Nat.zero_le _⟩
      rw [State.setTenant_accounts, haccs]
      rfl
    · exact c1 w z hz
  · obtain ⟨-, -, ⟨-, o2, -⟩, -⟩ := hb
    obtain ⟨r1, r2, r3⟩ := hr
    refine ⟨r1, r2, fun w z hz => ?_⟩
    obtain ⟨rfl, rfl⟩ | hz := rd w z hz
    · refine h2.trans (List.sum_eq_zero fun k hk => ?_).symm
      obtain ⟨a, ha, rfl⟩ := List.mem_map.mp hk
      exact if_neg (absent _ (o2 a ha))
    · exact r3 w z hz

/-! ### The end of a session (R80) -/

/-- An account has one session at most, and it is the one that its field names. -/
theorem State.SessionsKept.unique (hs : s.SessionsKept) {y : Session} (hx : s.sessions.rd p = some x)
    (hy : s.sessions.rd q = some y) (ha : x.account = y.account) : p = q := by
  obtain ⟨h1, -⟩ := hs
  obtain ⟨a, haa, hap⟩ := h1 p x hx
  obtain ⟨b, hbb, hbq⟩ := h1 q y hy
  rw [ha, hbb] at haa
  cases haa
  rw [hap] at hbq
  exact Option.some.inj hbq

theorem State.endSession_keeps (p : PrinterNo) (reason : EndReason) : s.Keeps (s.endSession p reason) := by
  refine (State.endSession_blocks p reason).keeps (fun hb => ?_) fun _ hr => ?_
  · cases hx : s.sessions.rd p with
    | none => rwa [State.endSession_of_none hx]
    | some x =>
      rw [State.endSession_of_some hx]
      obtain ⟨h1, h2, h3, h4, hs⟩ := hb
      have hkey (a : Account) : (if a.key = x.account then { a with session := none } else a).key = a.key := by
        split <;> rfl
      refine ⟨h1, h2, h3.mapAccounts hkey, h4.mapAccounts hkey fun a => by split <;> rfl, ?_⟩
      obtain ⟨k1, k2, k3, k4⟩ := id hs
      have rd {q : PrinterNo} {y : Session} (hy : (s.sessions.wr p none).rd q = some y) :
          p ≠ q ∧ s.sessions.rd q = some y := by
        rw [Table.rd_wr] at hy
        split at hy
        · cases hy
        · next e => exact ⟨e, hy⟩
      refine ⟨fun q y hy => ?_, fun a ha q hq => ?_, fun q y hy => k3 q y (rd hy).2,
        fun q q' y y' g hy hy' => k4 q q' y y' g (rd hy).2 (rd hy').2⟩
      · obtain ⟨hpq, hy⟩ := rd hy
        obtain ⟨a, haa, haq⟩ := k1 q y hy
        have hne : a.key ≠ x.account := fun e =>
          hpq (hs.unique hx hy (e.symm.trans (State.account_key haa)))
        refine ⟨a, ?_, haq⟩
        rw [State.account_map (s := s) (f := fun a => if a.key = x.account then { a with session := none } else a)
          rfl hkey, haa]
        exact congrArg some (if_neg hne)
      · obtain ⟨b, hb, rfl⟩ := List.mem_map.mp ha
        by_cases hk : b.key = x.account
        · rw [if_pos hk] at hq
          cases hq
        · rw [if_neg hk] at hq
          obtain ⟨y, hy, hya⟩ := k2 b hb q hq
          have hpq : p ≠ q := by
            rintro rfl
            rw [hx] at hy
            cases hy
            exact hk hya.symm
          refine ⟨y, ?_, ?_⟩
          · dsimp only
            rw [Table.rd_wr_of_ne _ _ hpq]
            exact hy
          · rw [if_neg hk]
            exact hya
  · cases hx : s.sessions.rd p with
    | none => rwa [State.endSession_of_none hx]
    | some x =>
      rw [State.endSession_of_some hx]
      exact hr.mapAccounts (fun a => by split <;> rfl) fun a => by split <;> rfl

theorem State.endAccountSession_keeps (a : Account) (reason : EndReason) :
    s.Keeps (s.endAccountSession a reason) := by
  unfold State.endAccountSession
  split
  · exact State.endSession_keeps _ _
  · exact .refl s

/-! ### A session opening (R84) -/

theorem State.openSession_blocks {window : Nat} (he : s.enrolled p = some e) (hv : e.service = .inService)
    (hg : e.sharing.gives key.tenant = true) : s.KeepsBlocks (s.openSession p key window) := by
  refine ⟨rfl, id, id, id, fun hs q y hy => ?_, id, fun _ => id⟩
  have hy : (s.sessions.wr p (some (Session.fresh key window))).rd q = some y := hy
  rw [Table.rd_wr] at hy
  split at hy
  · next hq =>
    cases hy
    exact ⟨e, hq ▸ he, hv, hg⟩
  · exact hs q y hy

/-- A session opens where none stands, for an account in use that has none, at a printer that serves it. -/
theorem State.openSession_keeps {window : Nat} (he : s.enrolled p = some e) (hv : e.service = .inService)
    (hg : e.sharing.gives key.tenant = true) (hp : s.sessions.rd p = none)
    (hkey : (s.account key).isSome = true) (hfree : ∀ q x, s.sessions.rd q = some x → x.account ≠ key) :
    s.Keeps (s.openSession p key window) := by
  have hk (a : Account) : (if a.key = key then { a with session := some p } else a).key = a.key := by
    split <;> rfl
  have rd {q : PrinterNo} {y : Session} (hy : (s.sessions.wr p (some (Session.fresh key window))).rd q = some y) :
      p = q ∧ y = Session.fresh key window ∨ p ≠ q ∧ s.sessions.rd q = some y := by
    rw [Table.rd_wr] at hy
    split at hy
    · next e => exact .inl ⟨e, (Option.some.inj hy).symm⟩
    · next e => exact .inr ⟨e, hy⟩
  refine (State.openSession_blocks he hv hg).keeps (fun hb => ?_) fun _ hr => ?_
  · obtain ⟨h1, h2, h3, h4, hs⟩ := hb
    refine ⟨h1, h2, h3.mapAccounts hk, h4.mapAccounts hk fun a => by split <;> rfl, ?_⟩
    obtain ⟨k1, k2, k3, k4⟩ := hs
    have look (k : AccountKey) := State.account_map (s := s)
      (t := (s.setSession p (some (Session.fresh key window))).modAccount key fun a => { a with session := some p })
      (f := fun a => if a.key = key then { a with session := some p } else a) rfl hk k
    refine ⟨fun q y hy => ?_, fun a ha q hq => ?_, fun q y hy => ?_, fun q q' y y' g hy hy' gy gy' => ?_⟩
    · obtain ⟨rfl, rfl⟩ | ⟨-, hy⟩ := rd hy
      · obtain ⟨a, ha⟩ := Option.isSome_iff_exists.mp hkey
        have hak := State.account_key ha
        exact ⟨{ a with session := some p }, (look key).trans (by rw [ha]; exact congrArg some (if_pos hak)), rfl⟩
      · obtain ⟨a, ha, hq⟩ := k1 q y hy
        have hak : a.key ≠ key := State.account_key ha ▸ hfree q y hy
        exact ⟨a, (look _).trans (by rw [ha]; exact congrArg some (if_neg hak)), hq⟩
    · obtain ⟨b, hb, rfl⟩ := List.mem_map.mp ha
      by_cases hbk : b.key = key
      · rw [if_pos hbk] at hq ⊢
        cases hq
        exact ⟨Session.fresh key window, Table.rd_wr_self _ _ _, hbk.symm⟩
      · rw [if_neg hbk] at hq ⊢
        obtain ⟨y, hy, hya⟩ := k2 b hb q hq
        have hpq : p ≠ q := by
          rintro rfl
          rw [hp] at hy
          cases hy
        exact ⟨y, (Table.rd_wr_of_ne _ _ hpq).trans hy, hya⟩
    · obtain ⟨rfl, rfl⟩ | ⟨-, hy⟩ := rd hy
      · exact ⟨List.nodup_nil, Nat.zero_le _, fun h hh => absurd hh List.not_mem_nil⟩
      · exact k3 q y hy
    · obtain ⟨rfl, rfl⟩ | ⟨-, hy⟩ := rd hy
      · exact absurd gy List.not_mem_nil
      · obtain ⟨rfl, rfl⟩ | ⟨-, hy'⟩ := rd hy'
        · exact absurd gy' List.not_mem_nil
        · exact k4 q q' y y' g hy hy' gy gy'
  · exact hr.mapAccounts hk fun a => by split <;> rfl

/-! ### Handles appended to a release list (R88) -/

/-- A release list that grows by handles of HELD jobs of the session's account, which stand in no other list. -/
theorem State.extendRelease_keeps {y : Session} (hx : s.sessions.rd p = some x) (ha : y.account = x.account)
    (hl : s.SessionsKept → y.release.Nodup ∧ y.release.length ≤ 8
      ∧ ∀ h ∈ y.release, h ∈ x.release ∨ s.inRelease h = false ∧ ∃ j, s.job h = some j ∧ j.state = .held ∧ j.owner = x.account) :
    s.Keeps (s.setSession p (some y)) := by
  have rd {q : PrinterNo} {z : Session} (hz : (s.sessions.wr p (some y)).rd q = some z) :
      p = q ∧ z = y ∨ p ≠ q ∧ s.sessions.rd q = some z := by
    rw [Table.rd_wr] at hz
    split at hz
    · next e => exact .inl ⟨e, (Option.some.inj hz).symm⟩
    · next e => exact .inr ⟨e, hz⟩
  refine State.KeepsBlocks.keeps (.ofSessions fun q z hz => ?_) (fun hb => ?_) fun _ => id
  · obtain ⟨rfl, rfl⟩ | ⟨-, hz⟩ := rd hz
    · exact ⟨x, hx, ha⟩
    · exact ⟨z, hz, rfl⟩
  · obtain ⟨h1, h2, h3, h4, hs⟩ := hb
    obtain ⟨hn, hlen, hmem⟩ := hl hs
    obtain ⟨k1, k2, k3, k4⟩ := hs
    have apart {q : PrinterNo} {z : Session} {h : Handle} (hpq : p ≠ q) (hz : s.sessions.rd q = some z)
        (hh : h ∈ y.release) (hh' : h ∈ z.release) : False := by
      obtain hxr | ⟨hin, -⟩ := hmem h hh
      · exact hpq (k4 p q x z h hx hz hxr hh')
      · rw [State.inRelease_iff.mpr ⟨q, z, hz, hh'⟩] at hin
        cases hin
    refine ⟨h1, h2, h3, h4, fun q z hz => ?_, fun a haa q hq => ?_, fun q z hz => ?_,
      fun q q' z z' g hz hz' gz gz' => ?_⟩
    · obtain ⟨rfl, rfl⟩ | ⟨-, hz⟩ := rd hz
      · rw [ha]
        exact k1 p x hx
      · exact k1 q z hz
    · obtain ⟨z, hz, hza⟩ := k2 a haa q hq
      by_cases hpq : p = q
      · subst hpq
        rw [hx] at hz
        cases hz
        exact ⟨y, Table.rd_wr_self _ _ _, ha.trans hza⟩
      · exact ⟨z, (Table.rd_wr_of_ne _ _ hpq).trans hz, hza⟩
    · obtain ⟨rfl, rfl⟩ | ⟨-, hz⟩ := rd hz
      · refine ⟨hn, hlen, fun h hh => ?_⟩
        obtain hxr | ⟨-, j, hj, hheld, howner⟩ := hmem h hh
        · obtain ⟨-, -, hall⟩ := k3 p x hx
          obtain ⟨j, hj, hheld, howner⟩ := hall h hxr
          exact ⟨j, hj, hheld, howner.trans ha.symm⟩
        · exact ⟨j, hj, hheld, howner.trans ha.symm⟩
      · exact k3 q z hz
    · obtain ⟨rfl, rfl⟩ | ⟨hpq, old⟩ := rd hz
      · obtain ⟨rfl, rfl⟩ | ⟨hpq, old⟩ := rd hz'
        · rfl
        · exact (apart hpq old gz gz').elim
      · obtain ⟨rfl, rfl⟩ | ⟨-, old'⟩ := rd hz'
        · exact (apart hpq old gz' gz).elim
        · exact k4 q q' z z' g old old' gz gz'

/-! ### Printers changed -/

/-- The links under a change of the printer table: the active jobs stay, and a DISABLED printer has none. -/
theorem State.ActiveLinked.ofPrinters {xs : Table 64 Printer} (h : s.ActiveLinked)
    (hact : ∀ p, State.activeJob { s with printers := xs } p = s.activeJob p)
    (hdis : ∀ p e, xs.rd p = .enrolled e → e.service = .disabled → e.activeJob = none) :
    State.ActiveLinked { s with printers := xs } := by
  obtain ⟨h1, h2, -⟩ := h
  refine ⟨fun n j p cam hj ha => ?_, fun p g hg => ?_, fun p e he => hdis p e (State.enrolled_eq_some.mp he)⟩
  · rw [hact]
    exact h1 n j p cam hj ha
  · rw [hact] at hg
    exact h2 p g hg

theorem State.activeJob_setPrinter (x : Printer) (q : PrinterNo) : (s.setPrinter p x).activeJob q =
    if p = q then x.enrolled?.bind (·.activeJob) else s.activeJob q := by
  simp only [State.activeJob, State.enrolled, State.setPrinter_printers, Table.rd_wr]
  split <;> rfl

/-- A printer's record replaced: the active job stays, and none stands at a DISABLED printer. -/
theorem State.setPrinter_books {x : Printer} (hact : s.BooksKept → x.enrolled?.bind (·.activeJob) = s.activeJob p)
    (hdis : s.BooksKept → ∀ e, x = .enrolled e → e.service = .disabled → e.activeJob = none) (hb : s.BooksKept) :
    (s.setPrinter p x).BooksKept := by
  refine hb.ofLinks ?_
  have hact := hact hb
  have hdis := hdis hb
  obtain ⟨-, hl, -⟩ := hb
  refine hl.ofPrinters (fun q => ?_) fun q e he hd => ?_
  · refine (State.activeJob_setPrinter x q).trans ?_
    split
    · next hq => rw [hact, hq]
    · rfl
  · rw [Table.rd_wr] at he
    split at he
    · exact hdis e he hd
    · obtain ⟨-, -, h3⟩ := hl
      exact h3 q e (State.enrolled_eq_some.mpr he) hd

/-- An enrolled printer's service state and sharing changed, where no session suffers by it and no active job
stands at a DISABLED printer. -/
theorem State.setService_keeps {e' : Enrolled} (he : s.printers.rd p = .enrolled e) (hslots : e'.slots = e.slots)
    (hact : e'.activeJob = e.activeJob)
    (hserved : ∀ x, s.sessions.rd p = some x → e.service = .inService → e.sharing.gives x.account.tenant = true →
      e'.service = .inService ∧ e'.sharing.gives x.account.tenant = true)
    (hdis : e'.service = .disabled → e.service = .disabled ∨ e.activeJob = none) :
    s.Keeps (s.setEnrolled p e') := by
  refine (State.setEnrolled_blocks he hslots hserved).keeps (State.setPrinter_books (fun _ => ?_) fun hb d hd hv => ?_)
    fun _ => id
  · simp only [State.activeJob, State.enrolled_eq_some.mpr he, Option.bind_some, Printer.enrolled?, hact]
  · cases hd
    rw [hact]
    obtain hv | hn := hdis hv
    · obtain ⟨-, ⟨-, -, h3⟩, -⟩ := hb
      exact h3 p e (State.enrolled_eq_some.mpr he) hv
    · exact hn

/-- A DISABLED printer's record removed: it has no session and no active job (R19). -/
theorem State.removePrinter_keeps (he : s.printers.rd p = .enrolled e) (hd : e.service = .disabled) :
    s.Keeps (s.setPrinter p .absent) := by
  have hen (q : PrinterNo) : (s.setPrinter p .absent).enrolled q = if p = q then none else s.enrolled q := by
    simp only [State.enrolled, State.setPrinter_printers, Table.rd_wr]
    split <;> rfl
  refine State.KeepsBlocks.keeps ⟨rfl, id, id, id, fun hs q x hx => ?_, fun hs q d hq => ?_, fun _ => id⟩
    (State.setPrinter_books (fun hb => ?_) fun _ e he => nomatch he) fun _ => id
  · obtain ⟨d, hq, hv, hg⟩ := hs q x hx
    rw [hen]
    split
    · next e' =>
      subst e'
      rw [State.enrolled_eq_some, he] at hq
      cases hq
      rw [hd] at hv
      cases hv
    · exact ⟨d, hq, hv, hg⟩
  · rw [hen] at hq
    split at hq
    · cases hq
    · exact hs q d hq
  · obtain ⟨-, ⟨-, -, h3⟩, -⟩ := hb
    have hen := State.enrolled_eq_some.mpr he
    simp only [State.activeJob, hen, Option.bind_some, h3 p e hen hd]
    rfl

/-- A printer enrolled where no record was enrolled, with its fresh slots and no active job (R12, R13). -/
theorem State.enrol_keeps (hp : (s.printers.rd p).enrolled? = none) (ha : e.activeJob = none)
    (hd : 1 ≤ e.slots.length ∧ e.slots.length ≤ 5 ∧ ∀ x ∈ e.slots, x.Derived) :
    s.Keeps (s.setEnrolled p e) := by
  have hen (q : PrinterNo) : (s.setEnrolled p e).enrolled q = if p = q then some e else s.enrolled q := by
    simp only [State.enrolled, State.setEnrolled, State.setPrinter_printers, Table.rd_wr]
    split <;> rfl
  refine State.KeepsBlocks.keeps ⟨rfl, id, id, id, fun hs q x hx => ?_, fun hs q d hq => ?_, fun _ => id⟩
    (State.setPrinter_books (fun _ => ?_) fun _ d hd hv => ?_) fun _ => id
  · obtain ⟨d, hq, hv, hg⟩ := hs q x hx
    rw [hen]
    split
    · next e' =>
      subst e'
      rw [State.enrolled, hp] at hq
      cases hq
    · exact ⟨d, hq, hv, hg⟩
  · rw [hen] at hq
    split at hq
    · cases hq
      exact hd
    · exact hs q d hq
  · rw [State.activeJob, State.enrolled, hp]
    exact ha
  · cases hd
    exact ha

end Sys2Proof.Machine
end

section
/-! SUPPORT. The lists of the pool, the links of active jobs and the counts under each move of one job record, in the
form that `State.Moved` and `State.Settled` ask for. -/

namespace Sys2Proof.Machine

variable {s t u : State} {p q : PrinterNo} {h g : Handle} {i j : Job} {cam : Bool} {e : Enrolled} {x : Tenant}
  {n m : RecordNo} {key : AccountKey} {v w : TenantNo} {gen : Fin 64} {r : JobRecord}

/-! ### The lists of the pool (R59, R63, R76) -/

/-- A job that stays unfinished stays in its lists. -/
theorem State.PoolListed.relisted_same (hl : s.PoolListed) (hj : s.jobAt n = some j) (hu : j.state.unfinished = true)
    (hi : i.state.unfinished = true) (hf : t.freeList = s.freeList) (hs : t.submission = s.submission)
    (hc : t.completions = s.completions) : s.Relisted t n ⟨gen, some i⟩ := by
  obtain ⟨n1, n2, n3, l1, l2, l3⟩ := hl
  refine ⟨hf ▸ n1, hs ▸ n2, hc ▸ n3, fun m => ?_, fun m => ?_, fun m t' => ?_⟩
  · rw [hf]
    split
    · next hm => simp [hm, l1, hj]
    · rfl
  · rw [hs]
    split
    · next hm => simp [hm, l2, hj, hu, hi]
    · rfl
  · rw [hc]
    split
    · next hm => simp [hm, l3, hj, hu, hi]
    · rfl

/-- A job that becomes COMPLETE moves to the tail of its tenant's completion list. -/
theorem State.PoolListed.relisted_completed (hl : s.PoolListed) (hj : s.jobAt n = some j)
    (hu : j.state.unfinished = true) (hi : i.state.unfinished = false) (ho : i.owner = j.owner)
    (hf : t.freeList = s.freeList) (hs : t.submission = s.submission.filter (· ≠ n))
    (hc : t.completions = s.completions.wr j.owner.tenant (s.completions.rd j.owner.tenant ++ [n])) :
    s.Relisted t n ⟨gen, some i⟩ := by
  obtain ⟨n1, n2, n3, l1, l2, l3⟩ := hl
  have hnot (v : TenantNo) : n ∉ s.completions.rd v := by simp [l3, hj, hu]
  refine ⟨hf ▸ n1, hs ▸ n2.filter _, fun v => ?_, fun m => ?_, fun m => ?_, fun m v => ?_⟩
  · rw [hc, Table.rd_wr]
    split
    · exact List.nodup_append.mpr ⟨n3 _, List.nodup_singleton n, fun a ha b hb => by
        rw [List.mem_singleton.mp hb]
        exact fun hab => hnot _ (hab ▸ ha)⟩
    · exact n3 v
  · rw [hf]
    split
    · next hm => simp [hm, l1, hj]
    · rfl
  · rw [hs, List.mem_filter]
    split
    · next hm => simp [hm, hi]
    · next hm => simp [hm]
  · rw [hc, Table.rd_wr]
    by_cases hm : m = n
    · subst hm
      by_cases hv : j.owner.tenant = v
      · simp [hv, hi, ho]
      · simp [hv, hi, ho, hnot]
    · by_cases hv : j.owner.tenant = v
      · simp [hm, hv]
      · simp [hm, hv]

/-- A record freed joins the tail of the free list and leaves the other two. -/
theorem State.PoolListed.relisted_freed (hl : s.PoolListed) (hj : s.jobAt n = some j)
    (hf : t.freeList = s.freeList ++ [n]) (hs : t.submission = s.submission.filter (· ≠ n))
    (hc : t.completions = s.completions.wr j.owner.tenant ((s.completions.rd j.owner.tenant).filter (· ≠ n))) :
    s.Relisted t n ⟨gen, none⟩ := by
  obtain ⟨n1, n2, n3, l1, l2, l3⟩ := hl
  refine ⟨?_, hs ▸ n2.filter _, fun v => ?_, fun m => ?_, fun m => ?_, fun m v => ?_⟩
  · rw [hf]
    refine List.nodup_append.mpr ⟨n1, List.nodup_singleton n, fun a ha b hb => ?_⟩
    rw [List.mem_singleton.mp hb]
    rintro rfl
    rw [l1, hj] at ha
    cases ha
  · rw [hc, Table.rd_wr]
    split
    · exact (n3 _).filter _
    · exact n3 v
  · rw [hf, List.mem_append, List.mem_singleton]
    split
    · next hm => simp [hm]
    · next hm => simp [hm]
  · rw [hs, List.mem_filter]
    split
    · next hm => simp [hm]
    · next hm => simp [hm]
  · rw [hc, Table.rd_wr]
    by_cases hm : m = n
    · subst hm
      by_cases hv : j.owner.tenant = v
      · simp [hv]
      · simp [hv, l3, hj]
    · by_cases hv : j.owner.tenant = v
      · simp [hm, hv]
      · simp [hm, hv]

/-- A job submitted takes the head of the free list and joins the tail of the submission list. -/
theorem State.PoolListed.relisted_submitted (hl : s.PoolListed) {rest : List RecordNo} (hfree : s.freeList = n :: rest)
    (hi : i.state.unfinished = true) (hf : t.freeList = rest) (hs : t.submission = s.submission ++ [n])
    (hc : t.completions = s.completions) : s.Relisted t n ⟨gen, some i⟩ := by
  obtain ⟨n1, n2, n3, l1, l2, l3⟩ := hl
  rw [hfree, List.nodup_cons] at n1
  have hj : s.jobAt n = none := (l1 n).mp (hfree ▸ List.mem_cons_self)
  refine ⟨hf ▸ n1.2, ?_, hc ▸ n3, fun m => ?_, fun m => ?_, fun m v => ?_⟩
  · rw [hs]
    refine List.nodup_append.mpr ⟨n2, List.nodup_singleton n, fun a ha b hb => ?_⟩
    rw [List.mem_singleton.mp hb]
    rintro rfl
    obtain ⟨j, hj', -⟩ := (l2 a).mp ha
    rw [hj] at hj'
    cases hj'
  · rw [hf, hfree, List.mem_cons]
    split
    · next hm => simp [hm, n1.1]
    · next hm => simp [hm]
  · rw [hs, List.mem_append, List.mem_singleton]
    split
    · next hm => simp [hm, hi]
    · next hm => simp [hm]
  · rw [hc]
    split
    · next hm => simp [hm, l3, hj, hi]
    · rfl

/-! ### The links of active jobs (R1, R62) -/

theorem State.activeAt_isSome : (s.activeAt h p).isSome = true ↔
    ∃ j cam, s.job h = some j ∧ j.state.active = some (p, cam) := by
  simp only [Option.isSome_iff_exists, State.activeAt_eq_some, exists_and_left]

theorem State.job_wr_self (hjobs : t.jobs = s.jobs.wr n r) (hn : h.record = n) :
    t.job h = if r.generation = h.generation then r.job else none := by
  simp only [State.job, hjobs, hn, Table.rd_wr_self]

theorem State.activeJob_congr (hp : t.printers = s.printers) (p : PrinterNo) : t.activeJob p = s.activeJob p := by
  simp only [State.activeJob, State.enrolled, hp]

/-- The record that a printer's active job names is active there. -/
theorem State.ActiveLinked.at_record (hl : s.ActiveLinked) (ha : s.activeJob p = some h) :
    ∃ j cam, s.jobAt h.record = some j ∧ j.state.active = some (p, cam) ∧ s.job h = some j := by
  obtain ⟨-, h2, -⟩ := hl
  obtain ⟨j, cam, hj, hs⟩ := h2 p h ha
  exact ⟨j, cam, State.jobAt_of_job hj, hs, hj⟩

/-- A record that is active neither before nor after. -/
theorem State.ActiveLinked.relinked_idle (hl : s.ActiveLinked) (hjobs : t.jobs = s.jobs.wr n r)
    (hold : ∀ j, s.jobAt n = some j → j.state.active = none) (hnew : ∀ j, r.job = some j → j.state.active = none)
    (hp : t.printers = s.printers) : s.Relinked t n := by
  refine ⟨fun p h _ => by rw [State.activeJob_congr hp], fun p h hn => ?_, fun p e he => ?_⟩
  · rw [State.activeJob_congr hp, State.activeAt_isSome, State.job_wr_self hjobs hn]
    constructor
    · rintro ⟨j, cam, hj, ha⟩
      split at hj
      · rw [hnew j hj] at ha
        cases ha
      · cases hj
    · intro ha
      obtain ⟨j, cam, hj, hs, -⟩ := hl.at_record ha
      rw [hold j (hn ▸ hj)] at hs
      cases hs
  · obtain ⟨-, -, h3⟩ := hl
    rw [State.enrolled, hp] at he
    exact h3 p e he

/-- An active job leaves its printer. -/
theorem State.ActiveLinked.relinked_left (hl : s.ActiveLinked) (hj : s.job h = some j)
    (ha : j.state.active = some (p, cam))
    (hjobs : t.jobs = s.jobs.wr h.record ⟨h.generation, some i⟩) (hi : i.state.active = none)
    (hp : t.printers = s.printers.wr p (.enrolled e.left)) : s.Relinked t h.record := by
  have hact (q : PrinterNo) : t.activeJob q = if p = q then none else s.activeJob q := by
    simp only [State.activeJob, State.enrolled, hp, Table.rd_wr]
    split <;> rfl
  have hjat := State.jobAt_of_job hj
  refine ⟨fun q g hg => ?_, fun q g hg => ?_, fun q d hd hv => ?_⟩
  · rw [hact]
    split
    · next hq =>
      subst hq
      refine ⟨nofun, fun hs => ?_⟩
      obtain ⟨h1, -⟩ := hl
      rw [h1 _ j p cam hjat ha, State.handleOf_of_job hj] at hs
      exact absurd (congrArg Handle.record (Option.some.inj hs)).symm hg
    · rfl
  · rw [State.activeAt_isSome, State.job_wr_self hjobs hg, hact]
    constructor
    · rintro ⟨k, cam', hk, hs⟩
      split at hk
      · cases hk
        rw [hi] at hs
        cases hs
      · cases hk
    · intro hs
      split at hs
      · cases hs
      · next hq =>
        obtain ⟨k, cam', hk, hs, -⟩ := hl.at_record hs
        rw [hg, hjat] at hk
        cases hk
        rw [ha] at hs
        cases hs
        exact absurd rfl hq
  · rw [State.enrolled_eq_some, hp, Table.rd_wr] at hd
    split at hd
    · cases hd
      rfl
    · obtain ⟨-, -, h3⟩ := hl
      exact h3 q d (State.enrolled_eq_some.mpr hd) hv

/-- A job granted at a printer without an active job. -/
theorem State.ActiveLinked.relinked_granted (hl : s.ActiveLinked) (hj : s.job h = some j)
    (ha : j.state.active = none) (he : s.printers.rd p = .enrolled e) (hact : e.activeJob = none)
    (hv : e.service ≠ .disabled) (hjobs : t.jobs = s.jobs.wr h.record ⟨h.generation, some i⟩)
    (hi : i.state.active = some (p, cam))
    (hp : t.printers = s.printers.wr p (.enrolled { e with activeJob := some h })) : s.Relinked t h.record := by
  have hnow (q : PrinterNo) : t.activeJob q = if p = q then some h else s.activeJob q := by
    simp only [State.activeJob, State.enrolled, hp, Table.rd_wr]
    split <;> rfl
  have hnone : s.activeJob p = none := by
    rw [State.activeJob, State.enrolled_eq_some.mpr he]
    exact hact
  refine ⟨fun q g hg => ?_, fun q g hg => ?_, fun q d hd hs => ?_⟩
  · rw [hnow]
    split
    · next hq =>
      subst hq
      rw [hnone]
      exact ⟨fun e => absurd (congrArg Handle.record (Option.some.inj e)).symm hg, nofun⟩
    · rfl
  · rw [State.activeAt_isSome, State.job_wr_self hjobs hg, hnow]
    constructor
    · rintro ⟨k, cam', hk, hs⟩
      split at hk
      · next hgen =>
        cases hk
        rw [hi] at hs
        cases hs
        rw [if_pos rfl]
        obtain ⟨_, _⟩ := g
        obtain ⟨_, _⟩ := h
        simp_all
      · cases hk
    · intro hs
      split at hs
      · next hq =>
        cases hs
        exact ⟨i, cam, if_pos rfl, hq ▸ hi⟩
      · obtain ⟨k, cam', hk, hs, -⟩ := hl.at_record hs
        rw [hg, State.jobAt_of_job hj] at hk
        cases hk
        rw [ha] at hs
        cases hs
  · rw [State.enrolled_eq_some, hp, Table.rd_wr] at hd
    split at hd
    · cases hd
      exact absurd hs hv
    · obtain ⟨-, -, h3⟩ := hl
      exact h3 q d (State.enrolled_eq_some.mpr hd) hs

/-- A job that stays active where it is. -/
theorem State.ActiveLinked.relinked_same (hl : s.ActiveLinked) (hj : s.job h = some j)
    (hjobs : t.jobs = s.jobs.wr h.record ⟨h.generation, some i⟩) (hi : i.state.active = j.state.active)
    (hp : t.printers = s.printers) : s.Relinked t h.record := by
  refine ⟨fun p h _ => by rw [State.activeJob_congr hp], fun q g hg => ?_, fun p e he => ?_⟩
  · rw [State.activeJob_congr hp, ← (State.activeLinked_iff.mp hl).1, State.activeAt_isSome, State.activeAt_isSome,
      State.job_wr_self hjobs hg, State.job, hg, State.job_eq_some.mp hj]
    dsimp only
    split
    · simp only [Option.some.injEq]
      constructor
      · rintro ⟨_, cam, rfl, ha⟩
        exact ⟨j, cam, rfl, hi ▸ ha⟩
      · rintro ⟨_, cam, rfl, ha⟩
        exact ⟨i, cam, rfl, hi ▸ ha⟩
    · rfl
  · obtain ⟨-, -, h3⟩ := hl
    rw [State.enrolled, hp] at he
    exact h3 p e he

/-! ### Counts and amounts -/

theorem State.defined_wr (v : TenantNo) (x' : Tenant) (w : TenantNo)
    (hw : (s.tenants.rd w).isSome = true) : ((s.tenants.wr v (some x')).rd w).isSome = true := by
  rw [Table.rd_wr]
  split
  · rfl
  · exact hw

/-- The counts of the tenants when one record is written and what is counted changes for that tenant alone. -/
theorem State.Counted.tenants_wr (hc : s.Counted) {x' : Tenant} {before after : TenantNo → Nat}
    (hx : s.tenants.rd v = some x) (hlive : x'.liveJobs + before v = x.liveJobs + after v)
    (hle : x'.liveJobs ≤ x'.jobLimit) (hcount : x'.accountCount = x.accountCount)
    (hlimit : x'.accountLimit = x.accountLimit) (hother : ∀ w, w ≠ v → before w = after w) (w : TenantNo) (y' : Tenant)
    (hy : (s.tenants.wr v (some x')).rd w = some y') :
    ∃ y, s.tenants.rd w = some y ∧ y'.liveJobs + before w = y.liveJobs + after w ∧ y'.liveJobs ≤ y'.jobLimit
      ∧ y'.accountCount = y.accountCount ∧ y'.accountLimit = y.accountLimit := by
  rw [Table.rd_wr] at hy
  split at hy
  · next hv =>
    cases hy
    subst hv
    exact ⟨x, hx, hlive, hle, hcount, hlimit⟩
  · next hv =>
    obtain ⟨k1, k2, -⟩ := hc.1 w y' hy
    exact ⟨y', hy, by rw [hother w (Ne.symm hv)], k2, rfl, rfl⟩

theorem State.pool_wr {x' : Tenant} {before after : TenantNo → Nat} (hx : s.tenants.rd v = some x)
    (hpool : x'.poolReserved + before v = x.poolReserved + after v) (hother : ∀ w, w ≠ v → before w = after w)
    (w : TenantNo) (y' : Tenant) (hy : (s.tenants.wr v (some x')).rd w = some y') :
    ∃ y, s.tenants.rd w = some y ∧ y'.poolReserved + before w = y.poolReserved + after w := by
  rw [Table.rd_wr] at hy
  split at hy
  · next hv =>
    cases hy
    subst hv
    exact ⟨x, hx, hpool⟩
  · next hv => exact ⟨y', hy, by rw [hother w (Ne.symm hv)]⟩

theorem State.Counted.one_le_held (hc : s.Counted) (hj : s.jobAt n = some j) (hs : j.state = .held) {a : Account}
    (ha : a ∈ s.accounts) (hk : a.key = j.owner) : 1 ≤ a.heldJobs := by
  have hle := State.hits_le_countJobs (s := s) (n := n) fun j => decide (j.owner = a.key) && decide (j.state = .held)
  rw [← hc.2 a ha] at hle
  have hj' : (s.jobs.rd n).job = some j := hj
  simp only [JobRecord.hits, hj', Option.any_some, hk, hs, decide_true, Bool.and_self, if_true] at hle
  exact hle

theorem State.Counted.one_le_live (hc : s.Counted) (hj : s.jobAt n = some j)
    (hx : s.tenants.rd j.owner.tenant = some x) : 1 ≤ x.liveJobs := by
  have hle := State.hits_le_countJobs (s := s) (n := n) fun i => decide (i.owner.tenant = j.owner.tenant)
  rw [← (hc.1 _ x hx).1] at hle
  have hj' : (s.jobs.rd n).job = some j := hj
  simp only [JobRecord.hits, hj', Option.any_some, decide_true, if_true] at hle
  exact hle

theorem State.ReservationsAgree.le_account (hr : s.ReservationsAgree) (hj : s.jobAt n = some j) {a : Account}
    (ha : a ∈ s.accounts) (hk : a.key = j.owner) : j.reserved ≤ a.reserved := by
  have hle := State.holds_le_reservedByJobs (s := s) (n := n) a.key
  have hj' : (s.jobs.rd n).job = some j := hj
  rw [← hr.2.1 a ha] at hle
  simp only [JobRecord.holds, hj', hk, if_true] at hle
  exact hle

theorem State.ReservationsAgree.le_pool (hr : s.ReservationsAgree) (ho : s.Owned) (hj : s.jobAt n = some j)
    (hx : s.tenants.rd j.owner.tenant = some x) : j.reserved ≤ x.poolReserved := by
  by_cases h0 : j.reserved = 0
  · exact h0 ▸ Nat.zero_le _
  · obtain ⟨a, ha, hk⟩ := hr.owner ho hj h0
    have hsum : a.reserved ≤ s.reservedByAccounts j.owner.tenant :=
      List.single_le_sum (fun _ _ => Nat.zero_le _) _ (List.mem_map.mpr ⟨a, ha, if_pos (by rw [hk])⟩)
    rw [hr.2.2 _ x hx]
    exact (hr.le_account hj ha hk).trans hsum

/-! ### The release lists -/

/-- A handle of a release list is not one of a record whose job is not HELD. -/
theorem State.SessionsKept.release_ne (hs : s.SessionsKept) {y : Session} (hy : s.sessions.rd p = some y)
    (hh : h ∈ y.release) (hn : ∀ j, s.jobAt n = some j → j.state ≠ .held) : h.record ≠ n := by
  rintro rfl
  obtain ⟨-, -, h3, -⟩ := hs
  obtain ⟨-, -, hall⟩ := h3 p y hy
  obtain ⟨j, hj, hheld, -⟩ := hall h hh
  exact hn j (State.jobAt_of_job hj) hheld

theorem State.sessions_rel_refl (s : State) (p : PrinterNo) :
    Option.Rel Session.Soft (s.sessions.rd p) (s.sessions.rd p) := by
  cases s.sessions.rd p with
  | none => exact .none
  | some y => exact .some (.refl y)

theorem State.forget_rel (h : Handle) (p : PrinterNo) :
    Option.Rel Session.Soft (s.sessions.rd p) ((s.forget h).sessions.rd p) := by
  rw [State.forget_sessions]
  cases hx : s.sessions.rd p with
  | none =>
    rw [State.forgotten_of_none hx]
    exact .none
  | some y =>
    rw [State.forgotten_of_some hx]
    obtain ⟨ha, hr, -⟩ := y.forget_fields h (s.activeJob p).isSome (((s.enrolled p).map (·.descriptor.window)).getD 0)
    exact .some ⟨ha, hr ▸ List.filter_sublist⟩

/-- Once a record's handle is forgotten, no release list names the record. -/
theorem State.SessionsKept.forget_ne (hs : s.SessionsKept) {y : Session}
    (hy : (s.forget (s.handleOf n)).sessions.rd p = some y) (hh : h ∈ y.release) : h.record ≠ n := by
  rw [State.forget_sessions, State.forgotten, Option.map_map, Option.map_eq_some_iff] at hy
  obtain ⟨z, hz, rfl⟩ := hy
  simp only [Function.comp, (z.forget_fields _ _ _).2.1, List.mem_filter] at hh
  obtain ⟨hh, hne⟩ := hh
  rintro rfl
  obtain ⟨-, -, h3, -⟩ := hs
  obtain ⟨-, -, hall⟩ := h3 p z hz
  obtain ⟨j, hj, -⟩ := hall h hh
  rw [State.handleOf_of_job hj] at hne
  simp at hne

end Sys2Proof.Machine
end

section
/-! SUPPORT. Every invariant under the moves of a job (R60, R64 to R67, R70, R72, R106, R110). -/

namespace Sys2Proof.Machine

variable {s t u : State} {p q : PrinterNo} {h g : Handle} {i j : Job} {cam : Bool} {e : Enrolled} {x : Tenant}
  {n m : RecordNo} {key : AccountKey} {v w : TenantNo}

/-- What the books say of an active job: its printer, its tenant and its account. -/
theorem State.BooksKept.active (hb : s.BooksKept) (ha : s.activeAt h p = some j) :
    s.job h = some j ∧ s.jobAt h.record = some j ∧ j.state.unfinished = true ∧ j.state ≠ .held
      ∧ (∃ cam, j.state.active = some (p, cam)) ∧ (∃ e, s.printers.rd p = .enrolled e ∧ e.activeJob = some h)
      ∧ (∃ x, s.tenants.rd j.owner.tenant = some x) ∧ ∃ a, s.account j.owner = some a := by
  obtain ⟨hj, cam, hact⟩ := State.activeAt_eq_some.mp ha
  have hjat := State.jobAt_of_job hj
  obtain ⟨-, hl, ⟨-, -, o3, o4⟩, -⟩ := hb
  have hne : j.state ≠ .held := by
    intro e
    rw [e] at hact
    cases hact
  have hu : j.state.unfinished = true := by
    cases hs : j.state with
    | complete o c =>
      rw [hs] at hact
      cases hact
    | _ => rfl
  have hp := ((State.activeLinked_iff.mp hl).1 p h).mp (by rw [ha]; rfl)
  refine ⟨hj, hjat, hu, hne, ⟨cam, hact⟩, ?_, Option.isSome_iff_exists.mp (o3 _ j hjat),
    Option.isSome_iff_exists.mp (o4 _ j hjat hu)⟩
  rw [State.activeJob, Option.bind_eq_some_iff] at hp
  obtain ⟨e, he, hact⟩ := hp
  exact ⟨e, State.enrolled_eq_some.mp he, hact⟩

/-- A job that is not HELD before or after counts for no account's held jobs. -/
theorem hits_not_held {gen : Fin 64} (hj : j.state ≠ .held) (key : AccountKey) :
    (⟨gen, some j⟩ : JobRecord).hits (fun j => decide (j.owner = key) && decide (j.state = .held)) = 0 := by
  simp [JobRecord.hits, hj]

theorem hits_held {gen : Fin 64} (hj : j.state = .held) (key : AccountKey) :
    (⟨gen, some j⟩ : JobRecord).hits (fun j => decide (j.owner = key) && decide (j.state = .held))
      = if key = j.owner then 1 else 0 := by
  simp [JobRecord.hits, hj, eq_comm]

/-- What a record counts for a tenant rests on its owner alone. -/
theorem hits_owner {gen gen' : Fin 64} (ho : i.owner = j.owner) (v : TenantNo) :
    (⟨gen, some i⟩ : JobRecord).hits (fun j => decide (j.owner.tenant = v))
      = (⟨gen', some j⟩ : JobRecord).hits (fun j => decide (j.owner.tenant = v)) := by
  simp [JobRecord.hits, ho]

/-- The tenants' counts when a record keeps its owner. -/
theorem State.Counted.tenants_same {gen gen' : Fin 64} {x' : Tenant} (hc : s.Counted)
    (hrec : s.jobs.rd n = ⟨gen, some j⟩) (hx : s.tenants.rd j.owner.tenant = some x) (ho : i.owner = j.owner)
    (hlive : x'.liveJobs = x.liveJobs) (hlimit : x'.jobLimit = x.jobLimit) (hcount : x'.accountCount = x.accountCount)
    (haccs : x'.accountLimit = x.accountLimit) (w : TenantNo) (y' : Tenant)
    (hy : (s.tenants.wr j.owner.tenant (some x')).rd w = some y') :
    ∃ y, s.tenants.rd w = some y
      ∧ y'.liveJobs + (s.jobs.rd n).hits (fun j => decide (j.owner.tenant = w))
        = y.liveJobs + (⟨gen', some i⟩ : JobRecord).hits (fun j => decide (j.owner.tenant = w))
      ∧ y'.liveJobs ≤ y'.jobLimit ∧ y'.accountCount = y.accountCount ∧ y'.accountLimit = y.accountLimit := by
  have heq (w : TenantNo) := hrec ▸ hits_owner (gen := gen') (gen' := gen) ho w
  refine hc.tenants_wr (before := fun w => (s.jobs.rd n).hits fun j => decide (j.owner.tenant = w))
    (after := fun w => (⟨gen', some i⟩ : JobRecord).hits fun j => decide (j.owner.tenant = w)) hx ?_ ?_ hcount haccs
    (fun w _ => (heq w).symm) w y' hy
  · rw [hlive, heq]
  · rw [hlive, hlimit]
    exact (hc.1 _ x hx).2.1

/-- The pools when a record keeps its owner. -/
theorem State.pool_settled {gen gen' : Fin 64} {x' : Tenant} (hrec : s.jobs.rd n = ⟨gen, some j⟩)
    (hx : s.tenants.rd j.owner.tenant = some x) (ho : i.owner = j.owner)
    (hpool : x'.poolReserved + j.reserved = x.poolReserved + i.reserved) (w : TenantNo) (y' : Tenant)
    (hy : (s.tenants.wr j.owner.tenant (some x')).rd w = some y') :
    ∃ y, s.tenants.rd w = some y
      ∧ y'.poolReserved + (s.jobs.rd n).holdsOf w = y.poolReserved + (⟨gen', some i⟩ : JobRecord).holdsOf w := by
  refine State.pool_wr (before := (s.jobs.rd n).holdsOf) (after := (⟨gen', some i⟩ : JobRecord).holdsOf) hx ?_
    (fun w hw => ?_) w y' hy
  · simp [hrec, JobRecord.holdsOf, ho, hpool]
  · simp [hrec, JobRecord.holdsOf, ho, Ne.symm hw]

/-- The accounts' reserved amounts when a record keeps its owner. -/
theorem State.account_settled {gen gen' : Fin 64} {f : Account → Account} (hrec : s.jobs.rd n = ⟨gen, some j⟩)
    (ho : i.owner = j.owner)
    (hf : ∀ a ∈ s.accounts, a.key = j.owner → (f a).reserved + j.reserved = a.reserved + i.reserved)
    (a : Account) (ha : a ∈ s.accounts) :
    (if a.key = j.owner then f a else a).reserved + (s.jobs.rd n).holds a.key
      = a.reserved + (⟨gen', some i⟩ : JobRecord).holds a.key := by
  by_cases hk : a.key = j.owner
  · simp [hrec, JobRecord.holds, ho, hk, hf a ha hk]
  · simp [hrec, JobRecord.holds, ho, hk, Ne.symm hk]

/-! ### Re-hold (R66) -/

theorem State.rehold_keeps (ht : s.rehold h p = some t) : s.Keeps t := by
  have hsome : ∃ j, s.activeAt h p = some j := by
    cases ha : s.activeAt h p with
    | none =>
      rw [State.rehold, ha] at ht
      cases ht
    | some j => exact ⟨j, rfl⟩
  obtain ⟨j, ha⟩ := hsome
  refine (State.rehold_blocks ht).keeps (fun hb => ?_) fun hb hr => ?_
  · obtain ⟨hj, hjat, hu, hne, ⟨cam, hact⟩, ⟨e, he, -⟩, ⟨x, hx⟩, a, hacc⟩ := hb.active ha
    rw [State.rehold_eq hj hact he hx] at ht
    cases ht
    obtain ⟨h1, h2, h3, h4, h5⟩ := id hb
    have hrec := State.job_eq_some.mp hj
    refine State.Moved.books (n := h.record) {
      jobs := rfl
      accounts := rfl
      key := fun a => by split <;> rfl
      session := fun a => by split <;> rfl
      held := fun a _ => ?_
      tenants := h4.tenants_same hrec hx rfl rfl rfl rfl rfl
      defined := State.defined_wr _ _
      owner := fun i hi => ?_
      lists := h1.relisted_same hjat hu rfl rfl rfl rfl
      sessions := s.sessions_rel_refl
      apart := fun q y g hy hg => h5.release_ne hy hg fun i hi => ?_
      links := h2.relinked_left hj hact rfl rfl rfl } hb
    · rw [hrec, hits_not_held hne, hits_held rfl]
      split <;> rfl
    · cases hi
      exact ⟨by rw [hx]; rfl, fun _ => by rw [hacc]; rfl⟩
    · rw [hjat] at hi
      cases hi
      exact hne
  · obtain ⟨hj, hjat, hu, hne, ⟨cam, hact⟩, ⟨e, he, -⟩, ⟨x, hx⟩, a, hacc⟩ := hb.active ha
    rw [State.rehold_eq hj hact he hx] at ht
    cases ht
    have ho := hb.2.2.1
    have hrec := State.job_eq_some.mp hj
    refine State.Settled.reservations (n := h.record) {
      jobs := rfl
      accounts := rfl
      key := fun a => by split <;> rfl
      reserved := State.account_settled hrec rfl fun a hmem hk => ?_
      tenants := State.pool_settled hrec hx rfl ?_
      idle := fun i hi _ => by cases hi; rfl
      owner := fun i hi h0 => by cases hi; exact absurd rfl h0 } ho hr
    · exact Nat.sub_add_cancel (hr.le_account hjat hmem hk)
    · exact Nat.sub_add_cancel (hr.le_pool ho hjat hx)

/-! ### Finish (R67) -/

theorem State.finish_keeps {outcome : JobOutcome} (ht : s.finish h p outcome = some t) : s.Keeps t := by
  have hsome : ∃ j, s.activeAt h p = some j := by
    cases ha : s.activeAt h p with
    | none =>
      rw [State.finish, ha] at ht
      cases ht
    | some j => exact ⟨j, rfl⟩
  obtain ⟨j, ha⟩ := hsome
  refine (State.finish_blocks ht).keeps (fun hb => ?_) fun hb hr => ?_
  · obtain ⟨hj, hjat, hu, hne, ⟨cam, hact⟩, ⟨e, he, -⟩, ⟨x, hx⟩, a, hacc⟩ := hb.active ha
    rw [State.finish_eq hj hact he hx] at ht
    cases ht
    obtain ⟨h1, h2, h3, h4, h5⟩ := id hb
    have hrec := State.job_eq_some.mp hj
    refine State.Moved.books (n := h.record) {
      jobs := rfl
      accounts := rfl
      key := fun a => by split <;> rfl
      session := fun a => by split <;> rfl
      held := fun a _ => ?_
      tenants := h4.tenants_same hrec hx rfl rfl rfl rfl rfl
      defined := State.defined_wr _ _
      owner := fun i hi => ?_
      lists := h1.relisted_completed hjat hu rfl rfl rfl rfl rfl
      sessions := s.sessions_rel_refl
      apart := fun q y g hy hg => h5.release_ne hy hg fun i hi => ?_
      links := h2.relinked_left hj hact rfl rfl rfl } hb
    · rw [hrec, hits_not_held hne, hits_not_held (by simp)]
      split <;> rfl
    · cases hi
      exact ⟨by rw [hx]; rfl, nofun⟩
    · rw [hjat] at hi
      cases hi
      exact hne
  · obtain ⟨hj, hjat, hu, hne, ⟨cam, hact⟩, ⟨e, he, -⟩, ⟨x, hx⟩, a, hacc⟩ := hb.active ha
    rw [State.finish_eq hj hact he hx] at ht
    cases ht
    have ho := hb.2.2.1
    have hrec := State.job_eq_some.mp hj
    refine State.Settled.reservations (n := h.record) {
      jobs := rfl
      accounts := rfl
      key := fun a => by split <;> rfl
      reserved := State.account_settled hrec rfl fun a hmem hk => ?_
      tenants := State.pool_settled hrec hx rfl ?_
      idle := fun i hi _ => by cases hi; rfl
      owner := fun i hi h0 => by cases hi; exact absurd rfl h0 } ho hr
    · exact Nat.sub_add_cancel (hr.le_account hjat hmem hk)
    · exact Nat.sub_add_cancel (hr.le_pool ho hjat hx)

/-! ### Grant (R65, R106) -/

/-- A HELD job in no release list is granted at a printer without an active job. -/
theorem State.grant_keeps {est : Nat} {a : Account} (hj : s.job h = some j) (hheld : j.state = .held)
    (he : s.printers.rd p = .enrolled e) (hact : e.activeJob = none) (hv : e.service ≠ .disabled)
    (hx : s.tenants.rd j.owner.tenant = some x) (hacc : s.account j.owner = some a)
    (hrel : s.SessionsKept → s.inRelease h = false) : s.Keeps (s.grant p e h j est) := by
  have hjat := State.jobAt_of_job hj
  have hrec := State.job_eq_some.mp hj
  have hidle : j.state.active = none := by rw [hheld]; rfl
  refine (State.grant_blocks he).keeps (fun hb => ?_) fun hb hr => ?_
  · rw [State.grant_eq hj hx]
    obtain ⟨h1, h2, h3, h4, h5⟩ := id hb
    refine State.Moved.books (n := h.record) {
      jobs := rfl
      accounts := rfl
      key := fun a => by split <;> rfl
      session := fun a => by split <;> rfl
      held := fun a ha => ?_
      tenants := h4.tenants_same hrec hx rfl rfl rfl rfl rfl
      defined := State.defined_wr _ _
      owner := fun i hi => ?_
      lists := h1.relisted_same hjat (by rw [hheld]; rfl) rfl rfl rfl rfl
      sessions := s.sessions_rel_refl
      apart := fun q y g hy hg hn => ?_
      links := h2.relinked_granted hj hidle he hact hv rfl rfl rfl } hb
    · rw [hrec, hits_held hheld, hits_not_held (by simp)]
      split
      · next hk => exact Nat.sub_add_cancel (h4.one_le_held hjat hheld ha hk)
      · rfl
    · cases hi
      exact ⟨by rw [hx]; rfl, fun _ => by rw [hacc]; rfl⟩
    · obtain ⟨i, hi, -⟩ := (h5.2.2.1 q y hy).2.2 g hg
      have hgh : g = h := by rw [← State.handleOf_of_job hi, hn, State.handleOf_of_job hj]
      have hin : s.inRelease h = true := State.inRelease_iff.mpr ⟨q, y, hy, hgh ▸ hg⟩
      rw [hrel h5] at hin
      cases hin
  · rw [State.grant_eq hj hx]
    have h0 : j.reserved = 0 := hr.1 _ j hjat hidle
    refine State.Settled.reservations (n := h.record) {
      jobs := rfl
      accounts := rfl
      key := fun a => by split <;> rfl
      reserved := State.account_settled hrec rfl fun a _ _ => by rw [h0]; rfl
      tenants := State.pool_settled hrec hx rfl (by rw [h0]; rfl)
      idle := fun i hi hi' => by cases hi; cases hi'
      owner := fun i hi _ => by
        cases hi
        exact ⟨a, State.account_mem hacc, State.account_key hacc⟩ } hb.2.2.1 hr

/-! ### Submit (R70) -/

theorem State.rd_of_jobAt {o : Option Job} (hj : s.jobAt n = o) : ∃ gen, s.jobs.rd n = ⟨gen, o⟩ :=
  ⟨_, by rw [← hj]; rfl⟩

theorem State.submit_keeps {rest : List RecordNo} {a : Account} (hfree : s.freeList = n :: rest)
    (hheld : j.state = .held) (h0 : j.reserved = 0) (hx : s.tenants.rd j.owner.tenant = some x)
    (hlimit : x.liveJobs < x.jobLimit) (hacc : s.account j.owner = some a) : s.Keeps (s.submit n rest j) := by
  have hnone (hl : s.PoolListed) : ∃ gen, s.jobs.rd n = ⟨gen, none⟩ :=
    State.rd_of_jobAt ((hl.2.2.2.1 n).mp (hfree ▸ List.mem_cons_self))
  refine (State.submit_blocks n rest j).keeps (fun hb => ?_) fun hb hr => ?_
  · rw [State.submit_eq hx]
    obtain ⟨h1, h2, h3, h4, h5⟩ := id hb
    obtain ⟨gen, hrec⟩ := hnone h1
    have hjat : ∀ i, s.jobAt n ≠ some i := fun i hi => by
      rw [State.jobAt, hrec] at hi
      cases hi
    refine State.Moved.books (n := n) {
      jobs := rfl
      accounts := rfl
      key := fun a => by split <;> rfl
      session := fun a => by split <;> rfl
      held := fun a ha => ?_
      tenants := h4.tenants_wr hx ?_ hlimit rfl rfl fun w hw => ?_
      defined := State.defined_wr _ _
      owner := fun i hi => ?_
      lists := h1.relisted_submitted hfree (by rw [hheld]; rfl) rfl rfl rfl
      sessions := s.sessions_rel_refl
      apart := fun q y g hy hg => h5.release_ne hy hg fun i hi => absurd hi (hjat i)
      links := h2.relinked_idle rfl (fun i hi => absurd hi (hjat i)) (fun i hi => ?_) rfl } hb
    · rw [hrec, JobRecord.hits_none, hits_held hheld]
      split <;> rfl
    · rw [hrec, JobRecord.hits_none, JobRecord.hits_some]
      simp
    · rw [hrec, JobRecord.hits_none, JobRecord.hits_some, if_neg (by simpa using Ne.symm hw)]
    · cases hi
      exact ⟨by rw [hx]; rfl, fun _ => by rw [hacc]; rfl⟩
    · cases hi
      rw [hheld]
      rfl
  · rw [State.submit_eq hx]
    obtain ⟨gen, hrec⟩ := hnone hb.1
    refine State.Settled.reservations (n := n) {
      jobs := rfl
      accounts := rfl
      key := fun a => by split <;> rfl
      reserved := fun a _ => ?_
      tenants := State.pool_wr hx ?_ fun w _ => ?_
      idle := fun i hi _ => by cases hi; exact h0
      owner := fun i hi hi0 => by cases hi; exact absurd h0 hi0 } hb.2.2.1 hr
    · rw [hrec, JobRecord.holds_none, JobRecord.holds_some, h0, ite_self]
      split <;> rfl
    · simp [hrec, JobRecord.holdsOf, h0]
    · simp [hrec, JobRecord.holdsOf, h0]

/-! ### A record freed (R60) -/

/-- The record of a job that is not active is freed. -/
theorem State.freeRecord_keeps (hidle : s.BooksKept → ∀ j, s.jobAt n = some j → j.state.active = none) :
    s.Keeps (s.freeRecord n) := by
  refine (State.freeRecord_blocks n).keeps (fun hb => ?_) fun hb hr => ?_
  · cases hjat : s.jobAt n with
    | none => rwa [State.freeRecord_of_none hjat]
    | some j =>
      obtain ⟨h1, h2, h3, h4, h5⟩ := id hb
      obtain ⟨x, hx⟩ := Option.isSome_iff_exists.mp (h3.2.2.1 n j hjat)
      obtain ⟨gen, hrec⟩ := State.rd_of_jobAt hjat
      rw [State.freeRecord_eq hjat, State.modTenant_of_some hx]
      refine State.Moved.books (n := n) (r := ⟨(s.jobs.rd n).generation + 1, none⟩)
        (f := fun a => if j.state = .held then if a.key = j.owner then { a with heldJobs := a.heldJobs - 1 } else a
          else a) {
        jobs := rfl
        accounts := by
          split
          · rfl
          · exact (List.map_id' _).symm
        key := fun a => by
          split
          · split <;> rfl
          · rfl
        session := fun a => by
          split
          · split <;> rfl
          · rfl
        held := fun a ha => ?_
        tenants := h4.tenants_wr hx ?_ ?_ rfl rfl fun w hw => ?_
        defined := State.defined_wr _ _
        owner := nofun
        lists := h1.relisted_freed hjat rfl rfl rfl
        sessions := State.forget_rel _
        apart := fun q y g hy hg => h5.forget_ne hy hg
        links := h2.relinked_idle rfl (hidle hb) nofun rfl } hb
      · by_cases hheld : j.state = .held
        · rw [hrec, hits_held hheld, if_pos hheld, JobRecord.hits_none]
          split
          · next hk => exact Nat.sub_add_cancel (h4.one_le_held hjat hheld ha hk)
          · rfl
        · rw [hrec, hits_not_held hheld, if_neg hheld]
          rfl
      · rw [hrec, JobRecord.hits_some, JobRecord.hits_none, if_pos (by simp)]
        exact Nat.sub_add_cancel (h4.one_le_live hjat hx)
      · exact (Nat.sub_le _ _).trans (h4.1 _ x hx).2.1
      · rw [hrec, JobRecord.hits_some, JobRecord.hits_none, if_neg (by simpa using Ne.symm hw)]
  · cases hjat : s.jobAt n with
    | none => rwa [State.freeRecord_of_none hjat]
    | some j =>
      obtain ⟨x, hx⟩ := Option.isSome_iff_exists.mp (hb.2.2.1.2.2.1 n j hjat)
      have h0 : j.reserved = 0 := hr.1 n j hjat (hidle hb j hjat)
      obtain ⟨gen, hrec⟩ := State.rd_of_jobAt hjat
      rw [State.freeRecord_eq hjat, State.modTenant_of_some hx]
      refine State.Settled.reservations (n := n) (r := ⟨(s.jobs.rd n).generation + 1, none⟩)
        (f := fun a => if j.state = .held then if a.key = j.owner then { a with heldJobs := a.heldJobs - 1 } else a
          else a) {
        jobs := rfl
        accounts := by
          split
          · rfl
          · exact (List.map_id' _).symm
        key := fun a => by
          split
          · split <;> rfl
          · rfl
        reserved := fun a _ => ?_
        tenants := State.pool_wr hx ?_ fun w _ => ?_
        idle := nofun
        owner := nofun } hb.2.2.1 hr
      · rw [hrec, JobRecord.holds_none, JobRecord.holds_some, h0, ite_self]
        split
        · split <;> rfl
        · rfl
      · simp [hrec, JobRecord.holdsOf, h0]
      · simp [hrec, JobRecord.holdsOf, h0]

/-! ### Expiry (R72) -/

theorem State.expire_keeps (hjat : s.jobAt n = some j) (hheld : j.state = .held) : s.Keeps (s.expire n j) := by
  obtain ⟨gen, hrec⟩ := State.rd_of_jobAt hjat
  rw [State.expire_eq]
  refine .trans (.trans (State.KeepsBlocks.keeps ?_ (fun hb => ?_) fun hb hr => ?_) (State.raise_keeps _ _))
    (State.raise_keeps _ _)
  · exact .trans (.ofLists _ _ _ _ _) (State.forget_blocks _)
  · obtain ⟨h1, h2, h3, h4, h5⟩ := id hb
    obtain ⟨x, hx⟩ := Option.isSome_iff_exists.mp (h3.2.2.1 n j hjat)
    refine State.Moved.books (n := n) {
      jobs := rfl
      accounts := rfl
      key := fun a => by split <;> rfl
      session := fun a => by split <;> rfl
      held := fun a ha => ?_
      tenants := fun w y hy => ⟨y, hy, ?_, (h4.1 w y hy).2.1, rfl, rfl⟩
      defined := fun _ => id
      owner := fun i hi => ?_
      lists := h1.relisted_completed hjat (by rw [hheld]; rfl) rfl rfl rfl rfl rfl
      sessions := State.forget_rel (s := s) _
      apart := fun q y g hy hg => h5.forget_ne (n := n) hy hg
      links := h2.relinked_idle rfl (fun i hi => ?_) (fun i hi => ?_) rfl } hb
    · rw [hrec, hits_held hheld, hits_not_held (by simp)]
      split
      · next hk => exact Nat.sub_add_cancel (h4.one_le_held hjat hheld ha hk)
      · rfl
    · rw [hrec]
      rfl
    · cases hi
      exact ⟨by rw [hx]; rfl, nofun⟩
    · rw [hjat] at hi
      cases hi
      rw [hheld]
      rfl
    · cases hi
      rfl
  · have h0 : j.reserved = 0 := hr.1 n j hjat (by rw [hheld]; rfl)
    refine State.Settled.reservations (n := n) {
      jobs := rfl
      accounts := rfl
      key := fun a => by split <;> rfl
      reserved := State.account_settled hrec rfl fun a _ _ => rfl
      tenants := fun w y hy => ⟨y, hy, ?_⟩
      idle := fun i hi _ => by cases hi; exact h0
      owner := fun i hi hi0 => by cases hi; exact absurd h0 hi0 } hb.2.2.1 hr
    rw [hrec]
    rfl

/-! ### Sides charged (R110, R111) -/

theorem State.chargeSides_keeps {colour : Bool} {sides : Nat} {cam' : Bool} (hj : s.job h = some j)
    (hact : j.state.active = some (p, cam')) : s.Keeps (s.chargeSides h j cam colour sides) := by
  have hjat := State.jobAt_of_job hj
  have hrec := State.job_eq_some.mp hj
  have hu : j.state.unfinished = true := by
    cases hs : j.state with
    | complete o c =>
      rw [hs] at hact
      cases hact
    | _ => rfl
  have found (hb : s.BooksKept) : ∃ x a, s.tenants.rd j.owner.tenant = some x ∧ s.account j.owner = some a
      ∧ (s.accounts.map (·.key)).Nodup := by
    obtain ⟨-, -, ⟨o1, -, o3, o4⟩, -⟩ := hb
    obtain ⟨x, hx⟩ := Option.isSome_iff_exists.mp (o3 _ j hjat)
    obtain ⟨a, ha⟩ := Option.isSome_iff_exists.mp (o4 _ j hjat hu)
    exact ⟨x, a, hx, ha, o1⟩
  refine State.chargeSides_blocks.keeps (fun hb => ?_) fun hb hr => ?_
  · obtain ⟨x, a, hx, hacc, hn⟩ := found hb
    obtain ⟨h1, h2, h3, h4, h5⟩ := id hb
    rw [State.chargeSides_eq hj hacc hx hn rfl]
    generalize sideCharge x.tariff j cam colour sides = charge
    rw [← map_account_found hn hacc fun a => { a with
      reserved := a.reserved - min charge j.reserved, charged := satAdd unitMax a.charged charge
      exhausted := a.exhausted || reaches a.allowance (satAdd unitMax a.charged charge) }]
    refine State.Moved.books (n := h.record) {
      jobs := rfl
      accounts := rfl
      key := fun a => by split <;> rfl
      session := fun a => by split <;> rfl
      held := fun a ha => ?_
      tenants := h4.tenants_same hrec hx rfl rfl rfl rfl rfl
      defined := State.defined_wr _ _
      owner := fun i hi => ?_
      lists := h1.relisted_same hjat hu hu rfl rfl rfl
      sessions := s.sessions_rel_refl
      apart := fun q y g hy hg => h5.release_ne hy hg fun i hi => ?_
      links := h2.relinked_same hj rfl rfl rfl } hb
    · rw [hrec]
      split <;> rfl
    · cases hi
      exact ⟨by rw [Job.chargedFor, hx]; rfl, fun _ => by rw [Job.chargedFor, hacc]; rfl⟩
    · rw [hjat] at hi
      cases hi
      intro e
      rw [e] at hact
      cases hact
  · obtain ⟨x, a, hx, hacc, hn⟩ := found hb
    rw [State.chargeSides_eq hj hacc hx hn rfl]
    generalize sideCharge x.tariff j cam colour sides = charge
    rw [← map_account_found hn hacc fun a => { a with
      reserved := a.reserved - min charge j.reserved, charged := satAdd unitMax a.charged charge
      exhausted := a.exhausted || reaches a.allowance (satAdd unitMax a.charged charge) }]
    refine State.Settled.reservations (n := h.record) {
      jobs := rfl
      accounts := rfl
      key := fun a => by split <;> rfl
      reserved := State.account_settled hrec rfl fun a hmem hk => ?_
      tenants := State.pool_settled hrec hx rfl ?_
      idle := fun i hi hi' => ?_
      owner := fun i hi _ => ?_ } hb.2.2.1 hr
    · have hle := hr.le_account hjat hmem hk
      simp only [Job.chargedFor]
      omega
    · have hle := hr.le_pool hb.2.2.1 hjat hx
      simp only [Job.chargedFor]
      omega
    · cases hi
      rw [Job.chargedFor, hact] at hi'
      cases hi'
    · cases hi
      exact ⟨a, State.account_mem hacc, State.account_key hacc⟩

/-! ### Records that keep owner, reservation and standing -/

/-- A job that keeps its owner, its reservation, its printer and whether it is finished. -/
def Job.Soft (j i : Job) : Prop :=
  i.owner = j.owner ∧ i.reserved = j.reserved ∧ i.state.active = j.state.active
    ∧ i.state.unfinished = j.state.unfinished

theorem Job.Soft.refl (j : Job) : j.Soft j := ⟨rfl, rfl, rfl, rfl⟩

/-- A record that keeps its generation, and its job softly. -/
def JobRecord.Soft (r r' : JobRecord) : Prop := r'.generation = r.generation ∧ Option.Rel Job.Soft r.job r'.job

theorem JobRecord.Soft.refl (r : JobRecord) : r.Soft r := by
  obtain ⟨gen, o⟩ := r
  cases o with
  | none => exact ⟨rfl, .none⟩
  | some j => exact ⟨rfl, .some (.refl j)⟩

theorem JobState.held_iff {st : JobState} : st = .held ↔ st.active = none ∧ st.unfinished = true := by
  cases st <;> simp [JobState.active, JobState.unfinished]

theorem Job.Soft.held_iff (h : j.Soft i) : i.state = .held ↔ j.state = .held := by
  obtain ⟨-, -, ha, hu⟩ := h
  rw [JobState.held_iff, JobState.held_iff, ha, hu]

theorem Table.cells_eq_ofFn {k : Nat} {α : Type} (t : Table k α) : t.cells = List.ofFn t.rd :=
  List.ext_getElem (by simp [t.size]) fun i h1 h2 => by simp [Table.rd]

section SoftRecords

variable {js : Table 1024 JobRecord}

theorem State.soft_back (h : ∀ n, (s.jobs.rd n).Soft (js.rd n)) (hi : (js.rd n).job = some i) :
    ∃ j, s.jobAt n = some j ∧ j.Soft i := by
  obtain ⟨-, hr⟩ := h n
  rw [hi] at hr
  cases hj : (s.jobs.rd n).job with
  | none =>
    rw [hj] at hr
    cases hr
  | some j =>
    rw [hj] at hr
    cases hr with
    | some hs => exact ⟨j, hj, hs⟩

theorem State.soft_forth (h : ∀ n, (s.jobs.rd n).Soft (js.rd n)) (hj : s.jobAt n = some j) :
    ∃ i, (js.rd n).job = some i ∧ j.Soft i := by
  obtain ⟨-, hr⟩ := h n
  rw [State.jobAt] at hj
  rw [hj] at hr
  cases hi : (js.rd n).job with
  | none =>
    rw [hi] at hr
    cases hr
  | some i =>
    rw [hi] at hr
    cases hr with
    | some hs => exact ⟨i, rfl, hs⟩

theorem State.soft_handleOf (h : ∀ n, (s.jobs.rd n).Soft (js.rd n)) (n : RecordNo) :
    State.handleOf { s with jobs := js } n = s.handleOf n :=
  congrArg (Handle.mk n) (h n).1

theorem State.soft_job (h : ∀ n, (s.jobs.rd n).Soft (js.rd n)) (hj : s.job g = some j) :
    ∃ i, State.job { s with jobs := js } g = some i ∧ j.Soft i := by
  obtain ⟨i, hi, hs⟩ := State.soft_forth h (State.jobAt_of_job hj)
  exact ⟨i, State.job_eq_some_iff.mpr ⟨hi, (State.soft_handleOf h _).trans (State.handleOf_of_job hj)⟩, hs⟩

theorem State.soft_countJobs (h : ∀ n, (s.jobs.rd n).Soft (js.rd n)) {which : Job → Bool}
    (hw : ∀ j i : Job, j.Soft i → which i = which j) :
    State.countJobs { s with jobs := js } which = s.countJobs which := by
  rw [State.countJobs_eq, State.countJobs_eq, Table.cells_eq_ofFn, Table.cells_eq_ofFn, List.map_ofFn, List.map_ofFn]
  congr 2
  funext n
  obtain ⟨-, hr⟩ := h n
  simp only [Function.comp, JobRecord.hits]
  generalize (s.jobs.rd n).job = a, (js.rd n).job = b at hr ⊢
  cases hr with
  | none => rfl
  | some hs => simp only [Option.any_some, hw _ _ hs]

theorem State.soft_reservedByJobs (h : ∀ n, (s.jobs.rd n).Soft (js.rd n)) (key : AccountKey) :
    State.reservedByJobs { s with jobs := js } key = s.reservedByJobs key := by
  rw [State.reservedByJobs_eq, State.reservedByJobs_eq, Table.cells_eq_ofFn, Table.cells_eq_ofFn, List.map_ofFn,
    List.map_ofFn]
  congr 2
  funext n
  obtain ⟨-, hr⟩ := h n
  simp only [Function.comp, JobRecord.holds]
  generalize (s.jobs.rd n).job = a, (js.rd n).job = b at hr ⊢
  cases hr with
  | none => rfl
  | some hs =>
    obtain ⟨ho, hr, -⟩ := hs
    simp only [ho, hr]

theorem State.PoolListed.ofJobs (hl : s.PoolListed) (h : ∀ n, (s.jobs.rd n).Soft (js.rd n)) :
    State.PoolListed { s with jobs := js } := by
  obtain ⟨n1, n2, n3, l1, l2, l3⟩ := hl
  refine ⟨n1, n2, n3, fun n => ?_, fun n => ?_, fun n v => ?_⟩
  · rw [l1]
    obtain ⟨-, hr⟩ := h n
    simp only [State.jobAt]
    generalize (s.jobs.rd n).job = a, (js.rd n).job = b at hr ⊢
    cases hr with
    | none => exact Iff.rfl
    | some hs => exact ⟨nofun, nofun⟩
  · rw [l2]
    constructor
    · rintro ⟨j, hj, hu⟩
      obtain ⟨i, hi, -, -, -, hs⟩ := State.soft_forth h hj
      exact ⟨i, hi, hs.trans hu⟩
    · rintro ⟨i, hi, hu⟩
      obtain ⟨j, hj, -, -, -, hs⟩ := State.soft_back h hi
      exact ⟨j, hj, hs.symm.trans hu⟩
  · rw [l3]
    constructor
    · rintro ⟨j, hj, hu, ho⟩
      obtain ⟨i, hi, hso, -, -, hs⟩ := State.soft_forth h hj
      exact ⟨i, hi, hs.trans hu, hso ▸ ho⟩
    · rintro ⟨i, hi, hu, ho⟩
      obtain ⟨j, hj, hso, -, -, hs⟩ := State.soft_back h hi
      exact ⟨j, hj, hs.symm.trans hu, hso ▸ ho⟩

theorem State.ActiveLinked.ofJobs (hl : s.ActiveLinked) (h : ∀ n, (s.jobs.rd n).Soft (js.rd n)) :
    State.ActiveLinked { s with jobs := js } := by
  obtain ⟨a1, a2, a3⟩ := hl
  refine ⟨fun n i p cam hi ha => ?_, fun p g hg => ?_, a3⟩
  · obtain ⟨j, hj, -, -, hs, -⟩ := State.soft_back h hi
    rw [State.soft_handleOf h]
    exact a1 n j p cam hj (hs.symm.trans ha)
  · obtain ⟨j, cam, hj, ha⟩ := a2 p g hg
    obtain ⟨i, hi, -, -, hs, -⟩ := State.soft_job h hj
    exact ⟨i, cam, hi, hs.trans ha⟩

theorem State.Owned.ofJobs (ho : s.Owned) (h : ∀ n, (s.jobs.rd n).Soft (js.rd n)) :
    State.Owned { s with jobs := js } := by
  obtain ⟨o1, o2, o3, o4⟩ := ho
  refine ⟨o1, o2, fun n i hi => ?_, fun n i hi hu => ?_⟩
  · obtain ⟨j, hj, ho, -⟩ := State.soft_back h hi
    rw [ho]
    exact o3 n j hj
  · obtain ⟨j, hj, ho, -, -, hs⟩ := State.soft_back h hi
    rw [ho]
    exact o4 n j hj (hs.symm.trans hu)

theorem State.Counted.ofJobs (hc : s.Counted) (h : ∀ n, (s.jobs.rd n).Soft (js.rd n)) :
    State.Counted { s with jobs := js } := by
  obtain ⟨c1, c2⟩ := hc
  refine ⟨fun v x hx => ?_, fun a ha => ?_⟩
  · obtain ⟨e1, e2⟩ := c1 v x hx
    exact ⟨e1.trans (State.soft_countJobs h fun j i hs => by rw [hs.1]).symm, e2⟩
  · refine (c2 a ha).trans (State.soft_countJobs h fun j i hs => ?_).symm
    simp only [hs.1, hs.held_iff]

theorem State.SessionsKept.ofJobs (hk : s.SessionsKept) (h : ∀ n, (s.jobs.rd n).Soft (js.rd n)) :
    State.SessionsKept { s with jobs := js } := by
  obtain ⟨k1, k2, k3, k4⟩ := hk
  refine ⟨k1, k2, fun p x hx => ?_, k4⟩
  obtain ⟨e1, e2, e3⟩ := k3 p x hx
  refine ⟨e1, e2, fun g hg => ?_⟩
  obtain ⟨j, hj, hheld, ho⟩ := e3 g hg
  obtain ⟨i, hi, hs⟩ := State.soft_job h hj
  exact ⟨i, hi, hs.held_iff.mpr hheld, hs.1.trans ho⟩

/-- Every job record changed softly. -/
theorem State.Keeps.ofJobs (h : ∀ n, (s.jobs.rd n).Soft (js.rd n)) : s.Keeps { s with jobs := js } := by
  refine (State.KeepsBlocks.ofLists s.accounts js s.freeList s.submission s.completions).keeps (fun hb => ?_)
    fun _ hr => ?_
  · obtain ⟨h1, h2, h3, h4, h5⟩ := hb
    exact ⟨h1.ofJobs h, h2.ofJobs h, h3.ofJobs h, h4.ofJobs h, h5.ofJobs h⟩
  · obtain ⟨r1, r2, r3⟩ := hr
    refine ⟨fun n i hi ha => ?_, fun a ha => (r2 a ha).trans (State.soft_reservedByJobs h a.key).symm, r3⟩
    obtain ⟨j, hj, -, hres, hs, -⟩ := State.soft_back h hi
    rw [hres]
    exact r1 n j hj (hs.symm.trans ha)

end SoftRecords

/-- One job record changed softly. -/
theorem State.setJob_keeps (hj : s.job h = some j) (hs : j.Soft i) : s.Keeps (s.setJob h.record i) := by
  rw [State.setJob_of_job hj]
  refine .ofJobs fun n => ?_
  rw [Table.rd_wr]
  split
  · next hn =>
    rw [← hn, State.job_eq_some.mp hj]
    exact ⟨rfl, .some hs⟩
  · exact .refl _

end Sys2Proof.Machine
end

section
/-! SUPPORT. Every invariant under records freed together, accounts and tenants added and removed, and a restart. -/

namespace Sys2Proof.Machine

variable {s t u : State} {p q : PrinterNo} {h g : Handle} {i j : Job} {e : Enrolled} {x : Tenant}
  {n m : RecordNo} {key : AccountKey} {v w : TenantNo}

theorem State.Keeps.of_books (hblocks : s.KeepsBlocks t) (h : s.BooksKept → s.Keeps t) : s.Keeps t :=
  hblocks.keeps (fun hb => (h hb).books hb) fun hb hr => (h hb).reserved hb hr

/-! ### Records freed together -/

theorem State.freeRecord_jobAt (n m : RecordNo) : (s.freeRecord n).jobAt m = if n = m then none else s.jobAt m := by
  cases hj : s.jobAt n with
  | none =>
    rw [State.freeRecord_of_none hj]
    split
    · next e => rw [← e, hj]
    · rfl
  | some j =>
    rw [State.freeRecord_eq hj]
    exact State.jobAt_wr

theorem foldl_freeRecord_jobAt (l : List RecordNo) (m : RecordNo) :
    (l.foldl State.freeRecord s).jobAt m = if m ∈ l then none else s.jobAt m := by
  induction l generalizing s with
  | nil => simp
  | cons n l ih =>
    rw [List.foldl_cons, ih, State.freeRecord_jobAt]
    by_cases hm : m ∈ l
    · simp [hm]
    · by_cases hn : n = m
      · simp [hn]
      · simp [hm, hn, Ne.symm hn]

theorem foldl_freeRecord_keeps {l : List RecordNo}
    (hidle : s.BooksKept → ∀ n ∈ l, ∀ j, s.jobAt n = some j → j.state.active = none) :
    s.Keeps (l.foldl State.freeRecord s) := by
  have blocks : s.KeepsBlocks (l.foldl State.freeRecord s) := by
    clear hidle
    induction l generalizing s with
    | nil => exact .refl s
    | cons n l ih => exact (State.freeRecord_blocks n).trans ih
  refine .of_books blocks fun hb => ?_
  replace hidle := hidle hb
  clear blocks hb
  induction l generalizing s with
  | nil => exact .refl s
  | cons n l ih =>
    rw [List.foldl_cons]
    refine (State.freeRecord_keeps fun _ => hidle n List.mem_cons_self).trans ?_
    refine ih (s := s.freeRecord n) fun m hm j hj => ?_
    rw [State.freeRecord_jobAt] at hj
    split at hj
    · cases hj
    · exact hidle m (List.mem_cons_of_mem _ hm) j hj

/-- The records of a predicate, in the order in which they are freed. -/
def State.freeing (s : State) (which : Job → Bool) : List RecordNo :=
  (Config.freeOrder s.draws (((List.finRange 1024).filter fun n => (s.jobAt n).any which).map (·.val))).filterMap
    (numberBelow 1024)

theorem State.freeWhere_eq (which : Job → Bool) :
    s.freeWhere which = (s.freeing which).foldl State.freeRecord { s with draws := s.draws + 1 } := rfl

theorem numberBelow_val {k : Nat} (n : Fin k) : numberBelow k n.val = some n := by
  rw [numberBelow, dif_pos n.isLt]

theorem State.mem_freeing {which : Job → Bool} : n ∈ s.freeing which ↔ (s.jobAt n).any which = true := by
  simp only [State.freeing, Config.freeOrder, List.mem_filterMap, List.mem_insertionSort, List.mem_map, List.mem_filter,
    List.mem_finRange, true_and]
  constructor
  · rintro ⟨-, ⟨m, hm, rfl⟩, hn⟩
    rw [numberBelow_val] at hn
    cases hn
    exact hm
  · exact fun hn => ⟨n.val, ⟨n, hn, rfl⟩, numberBelow_val n⟩

theorem State.freeWhere_jobAt (which : Job → Bool) (m : RecordNo) :
    (s.freeWhere which).jobAt m = if (s.jobAt m).any which then none else s.jobAt m := by
  rw [State.freeWhere_eq, foldl_freeRecord_jobAt]
  simp only [State.mem_freeing]
  rfl

theorem State.freeWhere_keeps {which : Job → Bool}
    (hidle : s.BooksKept → ∀ n j, s.jobAt n = some j → which j = true → j.state.active = none) :
    s.Keeps (s.freeWhere which) := by
  refine State.Keeps.trans (t := { s with draws := s.draws + 1 }) (.floor _ _ _ _ _ _ _ _ _ _)
    (foldl_freeRecord_keeps fun hb n hn j hj => hidle hb n j hj ?_)
  have := State.mem_freeing.mp hn
  have hj' : s.jobAt n = some j := hj
  rwa [hj'] at this

theorem State.freeRecord_sessions (n : RecordNo) {y : Session} (hy : (s.freeRecord n).sessions.rd p = some y) :
    ∃ x, s.sessions.rd p = some x ∧ y.account = x.account := by
  cases hj : s.jobAt n with
  | none =>
    rw [State.freeRecord_of_none hj] at hy
    exact ⟨y, hy, rfl⟩
  | some j =>
    rw [State.freeRecord_eq hj] at hy
    have hrel := State.forget_rel (s := s) (s.handleOf n) p
    dsimp only at hy
    rw [hy] at hrel
    cases hx : s.sessions.rd p with
    | none =>
      rw [hx] at hrel
      cases hrel
    | some x =>
      rw [hx] at hrel
      cases hrel with
      | some hs => exact ⟨x, rfl, hs.1⟩

theorem foldl_freeRecord_sessions (l : List RecordNo) {y : Session}
    (hy : (l.foldl State.freeRecord s).sessions.rd p = some y) :
    ∃ x, s.sessions.rd p = some x ∧ y.account = x.account := by
  induction l generalizing s with
  | nil => exact ⟨y, hy, rfl⟩
  | cons n l ih =>
    obtain ⟨z, hz, hyz⟩ := ih hy
    obtain ⟨x, hx, hzx⟩ := State.freeRecord_sessions n hz
    exact ⟨x, hx, hyz.trans hzx⟩

/-! ### Accounts added and removed (R51, R54) -/

theorem State.addAccount_blocks (a : Account) : s.KeepsBlocks (s.addAccount a) :=
  (State.KeepsBlocks.trans (.ofLists _ _ _ _ _) (State.modTenant_blocks _ _)).trans (State.exhaustAccount_blocks _)

theorem State.account_append {as : List Account} {b : Account} (hk : key ≠ b.key) :
    State.account { s with accounts := as ++ [b] } key = State.account { s with accounts := as } key := by
  simp [State.account, List.find?_append, Ne.symm hk]

theorem State.account_isSome_iff : (s.account key).isSome = true ↔ ∃ a ∈ s.accounts, a.key = key := by
  simp [State.account]

/-- A fresh account of a number that no account of the tenant has. -/
theorem State.addAccount_keeps {a : Account} (hnew : s.account a.key = none)
    (hx : s.tenants.rd a.key.tenant = some x) (hlimit : x.accountCount < x.accountLimit) (hheld : a.heldJobs = 0)
    (hres : a.reserved = 0) (hsess : a.session = none) : s.Keeps (s.addAccount a) := by
  unfold State.addAccount
  refine .trans ?_ (State.exhaustAccount_keeps _)
  rw [State.modTenant_of_some (x := x)]
  on_goal 2 => exact hx
  have fresh : ∀ b ∈ s.accounts, b.key ≠ a.key := fun b hb e => by
    have := State.account_isSome_iff.mpr ⟨b, hb, e⟩
    rw [hnew] at this
    cases this
  have rd (w : TenantNo) (z : Tenant)
      (hz : (s.tenants.wr a.key.tenant (some { x with accountCount := x.accountCount + 1 })).rd w = some z) :
      (a.key.tenant = w ∧ z = { x with accountCount := x.accountCount + 1 }) ∨ (a.key.tenant ≠ w ∧ s.tenants.rd w = some z) := by
    rw [Table.rd_wr] at hz
    split at hz
    · next e => exact .inl ⟨e, (Option.some.inj hz).symm⟩
    · next e => exact .inr ⟨e, hz⟩
  refine State.KeepsBlocks.keeps (.trans (.ofLists _ _ _ _ _) (State.setTenant_blocks _)) (fun hb => ?_) fun hb hr => ?_
  · obtain ⟨h1, h2, ⟨o1, o2, o3, o4⟩, ⟨c1, c2⟩, k1, k2, k3, k4⟩ := hb
    have unowned : ∀ n j, s.jobAt n = some j → j.state.unfinished = true → j.owner ≠ a.key := fun n j hj hu e => by
      have := o4 n j hj hu
      rw [e, hnew] at this
      cases this
    refine ⟨h1, h2, ⟨?_, fun b hb => ?_, fun n j hj => State.defined_wr _ _ _ (o3 n j hj), fun n j hj hu => ?_⟩,
      ⟨fun w z hz => ?_, fun b hb => ?_⟩, fun p y hy => ?_, fun b hb p hp => ?_, k3, k4⟩
    · simp only [State.setTenant_accounts, List.map_append, List.map_cons, List.map_nil]
      refine List.nodup_append.mpr ⟨o1, List.nodup_singleton _, fun k hk k' hk' => ?_⟩
      obtain ⟨b, hb, rfl⟩ := List.mem_map.mp hk
      rw [List.mem_singleton.mp hk']
      exact fresh b hb
    · rw [State.setTenant_accounts, List.mem_append, List.mem_singleton] at hb
      obtain hb | rfl := hb
      · exact State.defined_wr _ _ _ (o2 b hb)
      · exact State.defined_wr _ _ _ (by rw [hx]; rfl)
    · exact (congrArg Option.isSome (State.account_append (unowned n j hj hu))).trans (o4 n j hj hu)
    · simp only [State.setTenant_accounts, List.filter_append, List.length_append]
      obtain ⟨rfl, rfl⟩ | ⟨hne, hz⟩ := rd w z hz
      · obtain ⟨e1, e2, e3, e4⟩ := c1 _ x hx
        refine ⟨e1, e2, ?_, hlimit⟩
        rw [← e3]
        simp
      · obtain ⟨e1, e2, e3, e4⟩ := c1 w z hz
        refine ⟨e1, e2, ?_, e4⟩
        rw [← e3]
        simp [hne]
    · rw [State.setTenant_accounts, List.mem_append, List.mem_singleton] at hb
      obtain hb | rfl := hb
      · exact c2 b hb
      · rw [hheld]
        refine (State.countJobs_eq_zero (s := s) fun n j hj => ?_).symm
        by_cases hs : j.state = .held
        · simp [unowned n j hj (by rw [hs]; rfl)]
        · simp [hs]
    · obtain ⟨b, hb, hbp⟩ := k1 p y hy
      have hne : y.account ≠ a.key := fun e => by
        rw [e, hnew] at hb
        cases hb
      exact ⟨b, (State.account_append hne).trans hb, hbp⟩
    · rw [State.setTenant_accounts, List.mem_append, List.mem_singleton] at hb
      obtain hb | rfl := hb
      · exact k2 b hb p hp
      · rw [hsess] at hp
        cases hp
  · obtain ⟨-, -, ho, -⟩ := hb
    obtain ⟨r1, r2, r3⟩ := id hr
    refine ⟨r1, fun b hb => ?_, fun w z hz => ?_⟩
    · rw [State.setTenant_accounts, List.mem_append, List.mem_singleton] at hb
      obtain hb | rfl := hb
      · exact r2 b hb
      · rw [hres]
        refine (State.reservedByJobs_eq_zero (s := s) fun n j hj hk => ?_).symm
        by_contra h0
        obtain ⟨c, hc, hck⟩ := hr.owner ho hj h0
        exact fresh c hc (hck.trans hk)
    · have hsum : State.reservedByAccounts { s with accounts := s.accounts ++ [a] } w = s.reservedByAccounts w := by
        simp [State.reservedByAccounts, hres]
      obtain ⟨rfl, rfl⟩ | ⟨-, hz⟩ := rd w z hz
      · exact (r3 _ x hx).trans hsum.symm
      · exact (r3 w z hz).trans hsum.symm

/-- An account's record removed, once it has no session and no unfinished job. -/
theorem State.dropAccount_keeps {a : Account} (ha : s.BooksKept → s.account a.key = some a)
    (hjobs : s.BooksKept → ∀ n j, s.jobAt n = some j → j.owner = a.key → j.state.unfinished = false)
    (hsess : s.BooksKept → ∀ p y, s.sessions.rd p = some y → y.account ≠ a.key) :
    s.Keeps (({ s with accounts := s.accounts.filter fun b => b.key ≠ a.key }).modTenant a.key.tenant
      fun t => { t with accountCount := t.accountCount - 1 }) := by
  refine .of_books (.trans (.ofLists _ _ _ _ _) (State.modTenant_blocks _ _)) fun hb => ?_
  have ha := ha hb
  have hjobs := hjobs hb
  have hsess := hsess hb
  obtain ⟨h1, h2, ho, ⟨c1, c2⟩, k1, k2, k3, k4⟩ := id hb
  obtain ⟨o1, o2, o3, o4⟩ := id ho
  have hmem := State.account_mem ha
  obtain ⟨x, hx⟩ := Option.isSome_iff_exists.mp (o2 a hmem)
  rw [State.modTenant_of_some (x := x)]
  on_goal 2 => exact hx
  have look {k : AccountKey} (hk : k ≠ a.key) :
      State.account { s with accounts := s.accounts.filter fun b => b.key ≠ a.key } k = s.account k := by
    have hpred : (fun b : Account => decide (decide (b.key = k) = true ∧ decide (b.key ≠ a.key) = true))
        = fun b => decide (b.key = k) := by
      funext b
      by_cases hb : b.key = k
      · simp [hb, hk]
      · simp [hb]
    simp only [State.account, List.find?_filter]
    rw [← hpred]
    congr 1
    funext b
    simp [and_comm]
  have rd (w : TenantNo) (z : Tenant)
      (hz : (s.tenants.wr a.key.tenant (some { x with accountCount := x.accountCount - 1 })).rd w = some z) :
      (a.key.tenant = w ∧ z = { x with accountCount := x.accountCount - 1 }) ∨ (a.key.tenant ≠ w ∧ s.tenants.rd w = some z) := by
    rw [Table.rd_wr] at hz
    split at hz
    · next e => exact .inl ⟨e, (Option.some.inj hz).symm⟩
    · next e => exact .inr ⟨e, hz⟩
  obtain ⟨before, after, hsplit⟩ := List.append_of_mem hmem
  have hrest : (s.accounts.filter fun b => b.key ≠ a.key) = before ++ after := by
    rw [hsplit, List.map_append, List.map_cons] at o1
    obtain ⟨-, hn2, hdis⟩ := List.nodup_append.mp o1
    obtain ⟨hna, -⟩ := List.nodup_cons.mp hn2
    have hbefore : ∀ b ∈ before, decide (b.key ≠ a.key) = true := fun b hb =>
      decide_eq_true (hdis b.key (List.mem_map_of_mem hb) a.key List.mem_cons_self)
    have hafter : ∀ b ∈ after, decide (b.key ≠ a.key) = true := fun b hb =>
      decide_eq_true fun e => hna (e ▸ List.mem_map_of_mem hb)
    rw [hsplit, List.filter_append, List.filter_cons_of_neg (by simp), List.filter_eq_self.mpr hbefore,
      List.filter_eq_self.mpr hafter]
  refine State.KeepsBlocks.keeps (.trans (.ofLists _ _ _ _ _) (State.setTenant_blocks _)) (fun _ => ?_) fun _ hr => ?_
  · refine ⟨h1, h2, ⟨o1.sublist (List.filter_sublist.map _), fun b hb => ?_, fun n j hj => ?_, fun n j hj hu => ?_⟩,
      ⟨fun w z hz => ?_, fun b hb => c2 b (List.mem_filter.mp hb).1⟩, fun p y hy => ?_, fun b hb p hp => ?_, k3, k4⟩
    · exact State.defined_wr _ _ _ (o2 b (List.mem_filter.mp hb).1)
    · exact State.defined_wr _ _ _ (o3 n j hj)
    · have hk : j.owner ≠ a.key := fun e => by
        rw [hjobs n j hj e] at hu
        cases hu
      exact (congrArg Option.isSome (look hk)).trans (o4 n j hj hu)
    · simp only [State.setTenant_accounts, hrest]
      obtain ⟨rfl, rfl⟩ | ⟨hne, hz⟩ := rd w z hz
      · obtain ⟨e1, e2, e3, e4⟩ := c1 _ x hx
        refine ⟨e1, e2, ?_, (Nat.sub_le _ _).trans e4⟩
        rw [hsplit, List.filter_append, List.filter_cons_of_pos (by simp)] at e3
        simp only [List.length_append, List.length_cons] at e3
        simp only [List.filter_append, List.length_append]
        omega
      · obtain ⟨e1, e2, e3, e4⟩ := c1 w z hz
        refine ⟨e1, e2, e3.trans ?_, e4⟩
        rw [hsplit, List.filter_append, List.filter_cons_of_neg (by simp [hne]), List.filter_append]
    · obtain ⟨b, hb, hbp⟩ := k1 p y hy
      exact ⟨b, (look (hsess p y hy)).trans hb, hbp⟩
    · exact k2 b (List.mem_filter.mp hb).1 p hp
  · obtain ⟨r1, r2, r3⟩ := id hr
    refine ⟨r1, fun b hb => r2 b (List.mem_filter.mp hb).1, fun w z hz => ?_⟩
    have ha0 : a.reserved = 0 := by
      rw [r2 a hmem]
      refine State.reservedByJobs_eq_zero fun n j hj hk => r1 n j hj ?_
      cases hs : j.state with
      | complete o c => rfl
      | _ =>
        have := hjobs n j hj hk
        rw [hs] at this
        cases this
    have hsum : State.reservedByAccounts { s with accounts := s.accounts.filter fun b => b.key ≠ a.key } w
        = s.reservedByAccounts w := by
      simp only [State.reservedByAccounts, hrest]
      rw [hsplit]
      simp [ha0]
    obtain ⟨rfl, rfl⟩ | ⟨-, hz⟩ := rd w z hz
    · exact (r3 _ x hx).trans hsum.symm
    · exact (r3 w z hz).trans hsum.symm

/-! ### A tenant removed (R7, R45) -/

/-- A tenant taken out of the table: its accounts, its completion list, its ports and its sharings go with it. -/
def State.dropTenant (s : State) (t : TenantNo) : State :=
  (((({ s with
    accounts := s.accounts.filter fun a => a.key.tenant ≠ t
    completions := s.completions.wr t [] } : State).unbindTenant t).unshare t).setTenant t none)

theorem Sharing.gives_without {sh : Sharing} (hw : w ≠ v) : (sh.without v).gives w = sh.gives w := by
  have hval : v.val ≠ w.val := fun e => hw (Fin.ext e.symm)
  cases sh with
  | dedicated u =>
    simp only [Sharing.without]
    split
    · next hu =>
      subst hu
      simp [Sharing.gives, Ne.symm hw]
    · rfl
  | shared set =>
    have hlt : w.val < 16 := w.isLt
    simp only [Sharing.without, Sharing.gives, BitVec.getLsbD_and, BitVec.getLsbD_not, hlt, decide_true,
      Bool.true_and]
    have hbit : ((1#16 <<< v.val).getLsbD w.val) = false := by
      rw [BitVec.getLsbD_shiftLeft]
      by_cases hle : w.val < v.val
      · simp [hle]
      · have : w.val - v.val ≠ 0 := by omega
        simp [BitVec.getLsbD_one, this]
    rw [hbit]
    simp

theorem Printer.withoutTenant_enrolled {x : Printer} {e' : Enrolled} (h : x.withoutTenant v = .enrolled e') :
    ∃ e, x = .enrolled e ∧ e'.slots = e.slots ∧ e'.activeJob = e.activeJob ∧ e'.sharing = e.sharing.without v
      ∧ e'.service = if e.sharing = .dedicated v ∧ e.service = .inService then
        (if e.activeJob.isSome then .draining else .disabled) else e.service := by
  cases x with
  | enrolled e =>
    cases h
    exact ⟨e, rfl, rfl, rfl, rfl, rfl⟩
  | _ => cases h

theorem State.unshare_blocks (hsess : ∀ p y, s.sessions.rd p = some y → y.account.tenant ≠ v) :
    s.KeepsBlocks (s.unshare v) := by
  have h1 : s.KeepsBlocks { s with printers := s.printers.map (Printer.withoutTenant v) } := by
    refine ⟨rfl, id, id, id, fun hs p y hy => ?_, fun hs p e' he' => ?_, fun _ => id⟩
    · obtain ⟨e, he, hv, hg⟩ := hs p y hy
      rw [State.enrolled_eq_some] at he
      have hne := hsess p y hy
      refine ⟨{ e with
        sharing := e.sharing.without v
        service := if e.sharing = .dedicated v ∧ e.service = .inService then
          (if e.activeJob.isSome then .draining else .disabled) else e.service }, ?_, ?_, ?_⟩
      · rw [State.enrolled_eq_some, Table.rd_map, he]
        rfl
      · refine (if_neg ?_).trans hv
        rintro ⟨hd, -⟩
        rw [hd] at hg
        exact hne (of_decide_eq_true hg).symm
      · exact (Sharing.gives_without hne).trans hg
    · rw [State.enrolled_eq_some, Table.rd_map] at he'
      obtain ⟨e, he, hslots, -⟩ := Printer.withoutTenant_enrolled he'
      rw [hslots]
      exact hs p e (State.enrolled_eq_some.mpr he)
  unfold State.unshare
  dsimp only
  split
  · exact h1.trans (State.raise_keeps _ _).blocks
  · exact h1

theorem State.unshare_eq (v : TenantNo) : ∃ ps, s.unshare v = { s with
    printers := s.printers.map (Printer.withoutTenant v), ports := ps }
      ∧ ∀ n, (ps.rd n).role = (s.ports.rd n).role := by
  unfold State.unshare
  dsimp only
  split
  · refine ⟨_, rfl, fun n => ?_⟩
    dsimp only
    rw [Table.rd_map]
    split <;> rfl
  · exact ⟨_, rfl, fun _ => rfl⟩

theorem State.unbindTenant_role (n : PortNo) : ((s.unbindTenant v).ports.rd n).role ≠ .tenant v := by
  simp only [State.unbindTenant, Table.rd_map]
  split
  · nofun
  · next h => exact h

theorem State.dropTenant_blocks (hsess : ∀ p y, s.sessions.rd p = some y → y.account.tenant ≠ v) :
    s.KeepsBlocks (s.dropTenant v) := by
  unfold State.dropTenant
  refine .trans (.trans (.trans (.ofLists _ _ _ _ _) (State.unbindTenant_keeps v).blocks)
    (State.unshare_blocks hsess)) ⟨rfl, id, fun ⟨h1, h2, h3⟩ => ⟨h1, h2, fun n w hn => ?_⟩, id, id, id, fun _ => id⟩
  have hne : v ≠ w := by
    rintro rfl
    obtain ⟨ps, he, hr⟩ := State.unshare_eq (s := State.unbindTenant { s with
      accounts := s.accounts.filter fun a => a.key.tenant ≠ v, completions := s.completions.wr v [] } v) v
    rw [State.setTenant_ports, he] at hn
    exact State.unbindTenant_role n ((hr n).symm.trans hn)
  rw [State.setTenant_tenants, Table.rd_wr_of_ne _ _ hne]
  exact h3 n w hn

theorem State.dropTenant_eq (v : TenantNo) : ∃ ps, s.dropTenant v = { s with
    accounts := s.accounts.filter fun a => a.key.tenant ≠ v
    completions := s.completions.wr v []
    printers := s.printers.map (Printer.withoutTenant v)
    tenants := s.tenants.wr v none
    ports := ps } := by
  obtain ⟨ps, he, -⟩ := State.unshare_eq (s := State.unbindTenant { s with
    accounts := s.accounts.filter fun a => a.key.tenant ≠ v, completions := s.completions.wr v [] } v) v
  rw [State.dropTenant, he]
  exact ⟨ps, rfl⟩

/-- A tenant removed, once none of its jobs and sessions is left. -/
theorem State.dropTenant_keeps (hjobs : s.BooksKept → ∀ n j, s.jobAt n = some j → j.owner.tenant ≠ v)
    (hsess : ∀ p y, s.sessions.rd p = some y → y.account.tenant ≠ v) : s.Keeps (s.dropTenant v) := by
  refine .of_books (State.dropTenant_blocks hsess) fun hb => ?_
  have hjobs := hjobs hb
  have look {k : AccountKey} (hk : k.tenant ≠ v) :
      State.account { s with accounts := s.accounts.filter fun b => b.key.tenant ≠ v } k = s.account k := by
    simp only [State.account, List.find?_filter]
    congr 1
    funext b
    by_cases hb : b.key = k
    · simp [hb, hk]
    · simp [hb]
  have rd {w : TenantNo} {z : Tenant} (hz : (s.tenants.wr v none).rd w = some z) :
      w ≠ v ∧ s.tenants.rd w = some z := by
    rw [Table.rd_wr] at hz
    split at hz
    · cases hz
    · next e => exact ⟨Ne.symm e, hz⟩
  have defined {w : TenantNo} (hw : w ≠ v) (hd : (s.tenants.rd w).isSome = true) :
      ((s.tenants.wr v none).rd w).isSome = true := by
    rw [Table.rd_wr_of_ne _ _ (Ne.symm hw)]
    exact hd
  have kept {w : TenantNo} (hw : w ≠ v) : ((s.accounts.filter fun b => b.key.tenant ≠ v).filter
      fun a => decide (a.key.tenant = w)) = s.accounts.filter fun a => decide (a.key.tenant = w) := by
    rw [List.filter_filter]
    congr 1
    funext b
    by_cases hb : b.key.tenant = w
    · simp [hb, hw]
    · simp [hb]
  refine (State.dropTenant_blocks hsess).keeps (fun _ => ?_) fun _ hr => ?_
  · obtain ⟨⟨n1, n2, n3, l1, l2, l3⟩, hl, ⟨o1, o2, o3, o4⟩, ⟨c1, c2⟩, k1, k2, k3, k4⟩ := hb
    obtain ⟨ps, he⟩ := State.dropTenant_eq (s := s) v
    rw [he]
    refine ⟨⟨n1, n2, fun w => ?_, l1, l2, fun n w => ?_⟩, hl.ofPrinters (fun p => ?_) fun p e' he' hd => ?_,
      ⟨o1.sublist (List.filter_sublist.map _), fun b hb => ?_, fun n j hj => ?_, fun n j hj hu => ?_⟩,
      ⟨fun w z hz => ?_, fun b hb => c2 b (List.mem_filter.mp hb).1⟩, fun p y hy => ?_, fun b hb p hp => ?_, k3, k4⟩
    · rw [Table.rd_wr]
      split
      · exact List.nodup_nil
      · exact n3 w
    · rw [Table.rd_wr]
      split
      · next e =>
        subst e
        refine ⟨fun h => absurd h List.not_mem_nil, ?_⟩
        rintro ⟨j, hj, -, ho⟩
        exact absurd ho (hjobs n j hj)
      · exact l3 n w
    · simp only [State.activeJob, State.enrolled, Table.rd_map]
      cases s.printers.rd p <;> rfl
    · rw [Table.rd_map] at he'
      obtain ⟨e, he, -, ha, -, hv⟩ := Printer.withoutTenant_enrolled he'
      rw [ha]
      rw [hv] at hd
      split at hd
      · split at hd
        · cases hd
        · next hn => exact Option.not_isSome_iff_eq_none.mp hn
      · exact hl.2.2 p e (State.enrolled_eq_some.mpr he) hd
    · obtain ⟨hb, hne⟩ := List.mem_filter.mp hb
      exact defined (of_decide_eq_true hne) (o2 b hb)
    · exact defined (hjobs n j hj) (o3 n j hj)
    · exact (congrArg Option.isSome (look (hjobs n j hj))).trans (o4 n j hj hu)
    · obtain ⟨hne, hz⟩ := rd hz
      obtain ⟨e1, e2, e3, e4⟩ := c1 w z hz
      exact ⟨e1, e2, by rw [e3, kept hne], e4⟩
    · obtain ⟨b, hb, hbp⟩ := k1 p y hy
      exact ⟨b, (look (hsess p y hy)).trans hb, hbp⟩
    · exact k2 b (List.mem_filter.mp hb).1 p hp
  · obtain ⟨r1, r2, r3⟩ := hr
    obtain ⟨ps, he⟩ := State.dropTenant_eq (s := s) v
    rw [he]
    refine ⟨r1, fun b hb => r2 b (List.mem_filter.mp hb).1, fun w z hz => ?_⟩
    obtain ⟨hne, hz⟩ := rd hz
    refine (r3 w z hz).trans ?_
    simp only [State.reservedByAccounts]
    induction s.accounts with
    | nil => rfl
    | cons b bs ih =>
      rw [List.map_cons, List.sum_cons, ih, List.filter_cons]
      by_cases hb : b.key.tenant = v
      · simp [hb, Ne.symm hne]
      · simp [hb]

/-! ### Start-up (R193) -/

theorem State.reset_jobAt (n : RecordNo) : State.reset.jobAt n = none := by
  simp [State.jobAt, State.reset]

theorem State.reset_enrolled (p : PrinterNo) : State.reset.enrolled p = none := by
  simp [State.enrolled, State.reset, Printer.enrolled?]

theorem State.reset_freeList : State.reset.freeList = List.finRange 1024 := by rw [State.reset]

theorem State.reset_booksKept : State.reset.BooksKept := by
  have hj := State.reset_jobAt
  have he := State.reset_enrolled
  refine ⟨⟨State.reset_freeList ▸ List.nodup_finRange 1024, List.nodup_nil, fun t => ?_, fun n => ?_, fun n => ?_, fun n t => ?_⟩,
    ⟨fun n j p cam h => ?_, fun p g h => ?_, fun p e h => ?_⟩,
    ⟨List.nodup_nil, fun a h => absurd h List.not_mem_nil, fun n j h => ?_, fun n j h => ?_⟩,
    ⟨fun t x h => ?_, fun a h => absurd h List.not_mem_nil⟩,
    fun p x h => ?_, fun a h => absurd h List.not_mem_nil, fun p x h => ?_, fun p q x y g h => ?_⟩
  · simp [State.reset]
  · rw [State.reset_freeList, hj]
    exact ⟨fun _ => rfl, fun _ => List.mem_finRange n⟩
  · simp [hj]
    simp [State.reset]
  · simp [hj]
    simp [State.reset]
  · rw [hj] at h
    cases h
  · rw [State.activeJob, he] at h
    cases h
  · rw [he] at h
    cases h
  · rw [hj] at h
    cases h
  · rw [hj] at h
    cases h
  · simp [State.reset] at h
  · simp [State.reset] at h
  · simp [State.reset] at h
  · simp [State.reset] at h

theorem State.reset_reservationsAgree : State.reset.ReservationsAgree := by
  refine ⟨fun n j h => ?_, fun a h => absurd h List.not_mem_nil, fun t x h => ?_⟩
  · rw [State.reset_jobAt] at h
    cases h
  · simp [State.reset] at h

theorem State.reset_portsBound : State.reset.PortsBound := by
  have role (n : PortNo) : (State.reset.ports.rd n).role = if n = 0 then .facilities else .unbound := by
    simp only [State.reset, Table.rd_tab, Port.fresh]
  refine ⟨fun n => ?_, fun m n h => ?_, fun n t h => ?_⟩
  · rw [role]
    split
    · next e => exact ⟨fun _ => e, fun _ => rfl⟩
    · next e => exact ⟨nofun, fun h => absurd h e⟩
  · rw [role] at h
    split at h <;> cases h
  · rw [role] at h
    split at h <;> cases h

theorem State.reset_linesFollow : State.reset.LinesFollow := by
  intro cls
  refine ⟨fun h => ?_, fun ⟨n, x, _, hx, _⟩ => ?_⟩
  · cases cls <;> cases h
  · simp [State.reset] at hx

theorem State.reset_reordersKept : State.reset.ReordersKept :=
  ⟨List.nodup_nil, List.not_mem_nil, le_refl _, by decide, fun r h => absurd h List.not_mem_nil,
    fun r h => absurd h List.not_mem_nil⟩

theorem State.reset_slotsDerived : State.reset.SlotsDerived := fun p e h => by
  rw [State.reset_enrolled] at h
  cases h

theorem State.reset_sessionsServed : State.reset.SessionsServed := fun p x h => by
  simp [State.reset] at h

/-- The queue, the service request lines and the draws are no part of the books. -/
theorem State.BooksKept.aside (h : s.BooksKept) (ls : Table 64 Bool) (k : Nat) (is : List Instr) :
    State.BooksKept { s with serviceLines := ls, draws := k, pending := is } := h

theorem State.ReservationsAgree.aside (h : s.ReservationsAgree) (ls : Table 64 Bool) (k : Nat) (is : List Instr) :
    State.ReservationsAgree { s with serviceLines := ls, draws := k, pending := is } := h

theorem State.restart_keeps (s : State) : s.Keeps s.restart where
  pending := rfl
  clock _ := ⟨Nat.zero_le _, Nat.zero_le _⟩
  ports _ := State.reset_portsBound
  lines _ := State.reset_linesFollow
  served _ := State.reset_sessionsServed
  slots _ := State.reset_slotsDerived
  reorders _ _ := State.reset_reordersKept
  books _ := State.reset_booksKept.aside s.serviceLines s.draws s.pending
  reserved _ _ := State.reset_reservationsAgree.aside s.serviceLines s.draws s.pending

end Sys2Proof.Machine
end

section
/-! SUPPORT. Every invariant under the release unit, the conditions block and the riser channels. -/

namespace Sys2Proof.Machine

variable {s t u : State} {p q : PrinterNo} {h g : Handle} {i j : Job} {cam : Bool} {e : Enrolled} {x : Session}
  {n m : RecordNo} {key : AccountKey} {v w : TenantNo} {c : ChannelNo} {k : PositionNo} {body : List Byte}
  {cls : CondClass}

/-! ### Grant attempts (R90, R91) -/

theorem State.modSession_of_some (hx : s.sessions.rd p = some x) (f : Session → Session) :
    s.modSession p f = s.setSession p (some (f x)) := by
  simp only [State.modSession, hx]

theorem State.modSession_of_none (hx : s.sessions.rd p = none) (f : Session → Session) : s.modSession p f = s := by
  simp only [State.modSession, hx]

theorem State.returnToShowing_keeps (p : PrinterNo) : s.Keeps (s.returnToShowing p) := by
  unfold State.returnToShowing
  split
  · refine State.Keeps.trans ?_ (State.setMark_keeps p .showList)
    exact State.modSession_keeps fun _ _ => ⟨rfl, List.nil_sublist _⟩
  · exact .refl s

theorem State.noteRefusal_keeps (p : PrinterNo) (reason : NoteReason) (tag : Nat) :
    s.Keeps (s.noteRefusal p reason tag) :=
  State.modSession_keeps fun _ _ => ⟨rfl, List.Sublist.refl _⟩

/-- The check at grant passes an estimate only where the job's account and tenant are there (R103). -/
theorem State.checkGrant_some {r : NoteReason ⊕ Nat} (hc : s.checkGrant e j = some r) :
    ∃ a t, s.account j.owner = some a ∧ s.tenants.rd j.owner.tenant = some t
      ∧ ((∃ reason, grantRefusal a t (estimate t.tariff e.descriptor.colour j) = some reason ∧ r = .inl reason)
        ∨ (grantRefusal a t (estimate t.tariff e.descriptor.colour j) = none
          ∧ r = .inr (estimate t.tariff e.descriptor.colour j))) := by
  unfold State.checkGrant at hc
  split at hc
  · next a t ha ht =>
    refine ⟨a, t, ha, ht, ?_⟩
    dsimp only at hc
    split at hc
    · next reason hr => exact .inl ⟨reason, hr, (Option.some.inj hc).symm⟩
    · next hr => exact .inr ⟨hr, (Option.some.inj hc).symm⟩
  · cases hc

theorem grantFrom_keeps (l : List Handle) (he : s.printers.rd p = .enrolled e) (hact : e.activeJob = none)
    (hv : e.service = .inService) (hx : s.sessions.rd p = some x) (hl : x.release = l) :
    s.Keeps (grantFrom p e l s) := by
  induction l generalizing s x with
  | nil => exact State.returnToShowing_keeps p
  | cons h rest ih =>
    have hsub : rest.Sublist x.release := hl ▸ List.sublist_cons_self h rest
    unfold grantFrom
    rw [State.modSession_of_some hx]
    dsimp only
    have first : s.Keeps (s.setSession p (some { x with release := rest })) :=
      State.setSession_keeps hx ⟨rfl, hsub⟩
    have hx' : (s.setSession p (some { x with release := rest })).sessions.rd p = some { x with release := rest } := by
      simp
    split
    · exact first.trans (ih he hx' rfl)
    · next j hj =>
      split
      · next hheld =>
        split
        · next est hc =>
          obtain ⟨a, y, ha, hy, -⟩ := State.checkGrant_some hc
          have he' : (s.setSession p (some { x with release := rest })).printers.rd p = .enrolled e := he
          refine .of_books (first.blocks.trans (State.grant_blocks he')) fun hb => first.trans ?_
          refine State.grant_keeps hj hheld he' hact (by rw [hv]; nofun) hy ha fun _ => ?_
          obtain ⟨-, -, -, -, -, -, k3, k4⟩ := hb
          rw [Bool.eq_false_iff]
          intro hin
          obtain ⟨q, z, hz, hh⟩ := State.inRelease_iff.mp hin
          rw [State.setSession_sessions, Table.rd_wr] at hz
          split at hz
          · cases hz
            have hnd := (k3 p x hx).1
            rw [hl] at hnd
            exact (List.nodup_cons.mp hnd).1 hh
          · next hne => exact hne (k4 p q x z h hx hz (hl ▸ List.mem_cons_self) hh)
        · next reason hc =>
          refine (first.trans (State.noteRefusal_keeps p reason j.tag)).trans ?_
          rw [State.noteRefusal, State.modSession_of_some hx']
          exact ih (x := { x with
            release := rest, note := some ⟨reason, j.tag, ((x.note.map (·.count)).getD 0) + 1⟩ }) he (by simp) rfl
        · exact first.trans (ih he hx' rfl)
      · exact first.trans (ih he hx' rfl)

theorem State.grantAttempt_keeps (p : PrinterNo) : s.Keeps (s.grantAttempt p) := by
  unfold State.grantAttempt
  split
  · next e x he hx =>
    split
    · next hif =>
      simp only [Bool.and_eq_true, decide_eq_true_eq, Option.isNone_iff_eq_none, and_assoc] at hif
      obtain ⟨-, -, hv, -, hact⟩ := hif
      exact grantFrom_keeps _ (State.enrolled_eq_some.mp he) hact hv hx rfl
    · exact .refl s
  · exact .refl s

/-! ### Presentation (R81 to R84) -/

/-- What an accepted presentation has passed. -/
theorem State.presentation_inr {digest : Word32} {a : Account} (h : s.presentation p e digest = .inr a) :
    e.service = .inService ∧ e.conditionsClear = true ∧ s.accountOfDigest digest = some a ∧ a.barred = false
      ∧ e.sharing.gives a.key.tenant = true ∧ (s.activeAccount p).any (· ≠ a.key) = false
      ∧ s.releasingElsewhere a p = false := by
  unfold State.presentation at h
  split at h
  · cases h
  · next hv =>
    split at h
    · cases h
    · next hc =>
      split at h
      · cases h
      · next b hb =>
        split at h
        · cases h
        · next hbar =>
          split at h
          · cases h
          · next hg =>
            split at h
            · cases h
            · next hbusy =>
              split at h
              · cases h
              · next hrel =>
                cases h
                refine ⟨not_not.mp hv, ?_, hb, by simpa using hbar, by simpa using hg, by simpa using hbusy,
                  by simpa using hrel⟩
                simpa using hc

theorem State.accountOfDigest_mem {digest : Word32} {a : Account} (h : s.accountOfDigest digest = some a) :
    a ∈ s.accounts := by
  unfold State.accountOfDigest at h
  split at h
  · cases h
  · exact List.mem_of_find?_eq_some h

theorem State.refusePresentation_keeps (p : PrinterNo) (reason : EndReason) :
    s.Keeps (s.refusePresentation p reason) := by
  unfold State.refusePresentation
  dsimp only
  split
  · exact (State.setEndSession_keeps p reason).trans (State.setMark_keeps p .showList)
  · exact State.setEndSession_keeps p reason

theorem State.refreshSession_keeps {window : Nat} (hx : s.sessions.rd p = some x) :
    s.Keeps (s.refreshSession p x window) := by
  unfold State.refreshSession
  refine State.Keeps.trans (State.setSession_keeps hx ?_) (State.setMark_keeps p .showList)
  split <;> exact .refl x

theorem State.endSession_enrolled (reason : EndReason) (q : PrinterNo) :
    (s.endSession p reason).enrolled q = s.enrolled q := by
  obtain ⟨ss, as, ps, he⟩ := s.endSession_frame p reason
  rw [he]
  rfl

theorem State.endSession_sessions (reason : EndReason) (q : PrinterNo) :
    (s.endSession p reason).sessions.rd q = if p = q then none else s.sessions.rd q := by
  cases hx : s.sessions.rd p with
  | none =>
    rw [State.endSession_of_none hx]
    split
    · next e => rw [← e, hx]
    · rfl
  | some x =>
    rw [State.endSession_of_some hx]
    dsimp only
    rw [Table.rd_wr]

theorem State.endSession_account_isSome (reason : EndReason) (key : AccountKey) :
    ((s.endSession p reason).account key).isSome = (s.account key).isSome := by
  cases hx : s.sessions.rd p with
  | none => rw [State.endSession_of_none hx]
  | some x =>
    rw [State.endSession_of_some hx, State.account_map (s := s)
      (f := fun a => if a.key = x.account then { a with session := none } else a) rfl (fun a => by split <;> rfl),
      Option.isSome_map]

/-- The session that an accepted account has at another printer is ended before (R83 case 1). -/
def State.moveAway (s : State) (p : PrinterNo) (a : Account) : State :=
  match a.session with
  | some q => if q ≠ p then s.endSession q .moved else s
  | none => s

theorem State.moveAway_cases (p : PrinterNo) (a : Account) :
    s.moveAway p a = s ∧ (a.session = none ∨ a.session = some p)
      ∨ ∃ q, a.session = some q ∧ q ≠ p ∧ s.moveAway p a = s.endSession q .moved := by
  unfold State.moveAway
  cases ha : a.session with
  | none => exact .inl ⟨rfl, .inl rfl⟩
  | some q =>
    by_cases hq : q = p
    · subst hq
      exact .inl ⟨by simp, .inr rfl⟩
    · exact .inr ⟨q, rfl, hq, by simp [hq]⟩

theorem State.acceptPresentation_eq (p : PrinterNo) (e : Enrolled) (a : Account) :
    s.acceptPresentation p e a = match (s.moveAway p a).sessions.rd p with
      | some x => if x.account = a.key then (s.moveAway p a).refreshSession p x e.descriptor.window
        else ((s.moveAway p a).endSession p .takenOver).openSession p a.key e.descriptor.window
      | none => (s.moveAway p a).openSession p a.key e.descriptor.window := rfl

theorem State.acceptPresentation_keeps {a : Account} (he : s.enrolled p = some e) (hv : e.service = .inService)
    (hg : e.sharing.gives a.key.tenant = true) (ha : a ∈ s.accounts) : s.Keeps (s.acceptPresentation p e a) := by
  have hmove : s.Keeps (s.moveAway p a) := by
    obtain ⟨h, -⟩ | ⟨q, -, -, h⟩ := s.moveAway_cases p a
    · rw [h]
      exact .refl s
    · rw [h]
      exact State.endSession_keeps _ _
  have he' : (s.moveAway p a).enrolled p = some e := by
    obtain ⟨h, -⟩ | ⟨q, -, -, h⟩ := s.moveAway_cases p a
    · rw [h]
      exact he
    · rw [h, State.endSession_enrolled]
      exact he
  have hkey : ((s.moveAway p a).account a.key).isSome = true := by
    have hs : (s.account a.key).isSome = true := State.account_isSome_iff.mpr ⟨a, ha, rfl⟩
    obtain ⟨h, -⟩ | ⟨q, -, -, h⟩ := s.moveAway_cases p a
    · rw [h]
      exact hs
    · rw [h, State.endSession_account_isSome]
      exact hs
  have hfree (hb : s.BooksKept) : ∀ q y, (s.moveAway p a).sessions.rd q = some y → y.account = a.key → q = p := by
    intro q y hy hya
    obtain ⟨-, -, ho, -, k1, -⟩ := hb
    have names {q : PrinterNo} (hy : s.sessions.rd q = some y) : a.session = some q := by
      obtain ⟨b, hb, hq⟩ := k1 q y hy
      rw [hya, ho.account_eq ha] at hb
      cases hb
      exact hq
    obtain ⟨h, hs⟩ | ⟨q', hq', hne, h⟩ := s.moveAway_cases p a
    · rw [h] at hy
      rw [names hy] at hs
      obtain hs | hs := hs
      · cases hs
      · exact Option.some.inj hs
    · rw [h, State.endSession_sessions] at hy
      split at hy
      · cases hy
      · next hqq =>
        rw [names hy] at hq'
        exact absurd (Option.some.inj hq').symm hqq
  rw [State.acceptPresentation_eq]
  cases hx : (s.moveAway p a).sessions.rd p with
  | none =>
    refine .of_books (hmove.blocks.trans (State.openSession_blocks he' hv hg)) fun hb =>
      hmove.trans (State.openSession_keeps he' hv hg hx hkey fun q y hy hya => ?_)
    rw [hfree hb q y hy hya, hx] at hy
    cases hy
  | some x =>
    dsimp only
    split
    · exact hmove.trans (State.refreshSession_keeps hx)
    · have he'' : ((s.moveAway p a).endSession p .takenOver).enrolled p = some e :=
        (State.endSession_enrolled _ _).trans he'
      refine .of_books (hmove.blocks.trans ((State.endSession_blocks _ _).trans (State.openSession_blocks he'' hv hg)))
        fun hb => hmove.trans ((State.endSession_keeps _ _).trans (State.openSession_keeps he'' hv hg ?_ ?_
          fun q y hy hya => ?_))
      · rw [State.endSession_sessions, if_pos rfl]
      · rw [State.endSession_account_isSome]
        exact hkey
      · rw [State.endSession_sessions] at hy
        split at hy
        · cases hy
        · next hne => exact hne (hfree hb q y hy hya).symm

theorem takePresent_keeps (p : PrinterNo) (body : List Byte) (s : State) : s.Keeps (takePresent p body s).1 := by
  unfold takePresent
  split
  · exact .refl s
  · next e he =>
    split
    · exact State.refusePresentation_keeps _ _
    · next a ha =>
      obtain ⟨hv, -, hd, -, hg, -⟩ := State.presentation_inr ha
      exact State.acceptPresentation_keeps he hv hg (State.accountOfDigest_mem hd)

/-! ### Selection (R88) -/

theorem State.qualifies_iff : s.qualifies p e key n = true ↔ ∃ j, s.jobAt n = some j ∧ j.owner = key ∧ j.state = .held
    ∧ s.inRelease (s.handleOf n) = false ∧ e.descriptor.fits j.large = true ∧ j.preferred.all (· = p) = true := by
  unfold State.qualifies
  split
  · next j hj => simp [hj, and_assoc]
  · next hj => simp [hj]

theorem State.selectable_iff : s.selectable p e key h = true ↔ ∃ j, s.job h = some j ∧ j.owner = key ∧ j.state = .held
    ∧ s.inRelease h = false ∧ e.descriptor.fits j.large = true ∧ j.preferred.all (· = p) = true
    ∧ j.expiryDue = false := by
  unfold State.selectable
  split
  · next j hj =>
    rw [Bool.and_eq_true, Bool.not_eq_true', State.qualifies_iff]
    constructor
    · rintro ⟨⟨i, hi, h1, h2, h3, h4, h5⟩, h6⟩
      rw [State.jobAt_of_job hj] at hi
      cases hi
      rw [State.handleOf_of_job hj] at h3
      exact ⟨j, hj, h1, h2, h3, h4, h5, h6⟩
    · rintro ⟨i, hi, h1, h2, h3, h4, h5, h6⟩
      rw [hj, Option.some.injEq] at hi
      subst hi
      exact ⟨⟨j, State.jobAt_of_job hj, h1, h2, by rwa [State.handleOf_of_job hj], h4, h5⟩, h6⟩
  · next hj => simp [hj]

/-- A property of the release list that every appended handle keeps. -/
theorem State.appendChosen_spec {P : Handle → Prop} (hP : ∀ h, s.selectable p e key h = true → P h)
    (hs release : List Handle) (hn : release.Nodup) (hl : release.length ≤ 8) (hr : ∀ h ∈ release, P h) :
    (s.appendChosen p e key hs release).Nodup ∧ (s.appendChosen p e key hs release).length ≤ 8
      ∧ ∀ h ∈ s.appendChosen p e key hs release, P h := by
  induction hs generalizing release with
  | nil => exact ⟨hn, hl, hr⟩
  | cons h hs ih =>
    unfold State.appendChosen
    split
    · next hif =>
      obtain ⟨hlen, hnot, hsel⟩ := hif
      refine ih _ (List.nodup_append.mpr ⟨hn, List.nodup_singleton h, fun a ha b hb => ?_⟩) ?_ fun g hg => ?_
      · rw [List.mem_singleton.mp hb]
        exact fun hab => hnot (hab ▸ ha)
      · rw [List.length_append, List.length_singleton]
        omega
      · rw [List.mem_append, List.mem_singleton] at hg
        obtain hg | rfl := hg
        · exact hr g hg
        · exact hP g hsel
    · exact ih _ hn hl hr

theorem takeSelect_keeps (p : PrinterNo) (body : List Byte) (s : State) : s.Keeps (takeSelect p body s).1 := by
  unfold takeSelect
  split
  · next e x he hx =>
    split
    · exact .refl s
    · dsimp only
      split
      · exact State.setMark_keeps _ _
      · refine State.Keeps.trans (State.extendRelease_keeps (y := { x with
          releasing := true, window := none, release := s.chosenList p e x body }) hx rfl fun hs => ?_)
          (State.grantAttempt_keeps p)
        obtain ⟨hn, hl, hall⟩ := hs.2.2.1 p x hx
        refine State.appendChosen_spec (fun h hsel => .inr ?_) _ _ hn hl fun h hh => .inl hh
        obtain ⟨j, hj, ho, hheld, hin, -⟩ := State.selectable_iff.mp hsel
        exact ⟨hin, j, hj, hheld, ho⟩
  · exact .refl s

/-! ### The moves of the active job (R93 to R98, R158, R159) -/

theorem State.releaseRehold_keeps (h : Handle) (p : PrinterNo) (reason : EndReason) :
    s.Keeps (s.releaseRehold h p reason) := by
  unfold State.releaseRehold
  split
  · next t ht => exact ((State.rehold_keeps ht).trans (State.setMark_keeps _ _)).trans (State.endSession_keeps _ _)
  · exact .refl s

theorem State.conditionRehold_keeps (p : PrinterNo) : s.Keeps (s.conditionRehold p) := by
  unfold State.conditionRehold
  split
  · exact .refl s
  · split
    · next t ht => exact ((State.rehold_keeps ht).trans (State.setMark_keeps _ _)).trans (State.endSession_keeps _ _)
    · exact .refl s

theorem State.grantAccepted_keeps (h : Handle) (p : PrinterNo) : s.Keeps (s.grantAccepted h p) := by
  unfold State.grantAccepted
  split
  · next e j cam he hg =>
    obtain ⟨hj, hs⟩ := State.grantedAt_eq_some.mp hg
    exact State.setJob_keeps hj ⟨rfl, rfl, by rw [hs]; rfl, by rw [hs]; rfl⟩
  · exact .refl s

theorem State.grantAnswered_keeps (h : Handle) (p : PrinterNo) (body : List Byte) :
    s.Keeps (s.grantAnswered h p body) := by
  unfold State.grantAnswered
  split
  · exact State.grantAccepted_keeps h p
  · unfold State.grantRefused
    split
    · exact State.releaseRehold_keeps _ _ _
    · exact .refl s

theorem State.startExpired_keeps (p : PrinterNo) : s.Keeps (s.startExpired p) := by
  unfold State.startExpired
  split
  · exact .refl s
  · split
    · exact State.releaseRehold_keeps _ _ _
    · exact .refl s

theorem takeJobStart_keeps (p : PrinterNo) (body : List Byte) (s : State) : s.Keeps (takeJobStart p body s).1 := by
  unfold takeJobStart
  dsimp only
  split
  · next j cam _ hg =>
    obtain ⟨hj, hs⟩ := State.grantedAt_eq_some.mp hg
    exact State.setJob_keeps hj ⟨rfl, rfl, by rw [hs]; rfl, by rw [hs]; rfl⟩
  · exact .refl s

theorem State.afterFinish_keeps (p : PrinterNo) : s.Keeps (s.afterFinish p) := by
  unfold State.afterFinish
  split
  · split
    · exact .refl s
    · split
      · exact State.endSession_keeps _ _
      · split
        · exact State.endSession_keeps _ _
        · split
          · exact State.endSession_keeps _ _
          · exact State.grantAttempt_keeps p
  · exact .refl s

theorem takeJobEnd_keeps (p : PrinterNo) (body : List Byte) (s : State) : s.Keeps (takeJobEnd p body s).1 := by
  unfold takeJobEnd
  split
  · exact .refl s
  · split
    · next t ht => exact (State.finish_keeps ht).trans (State.afterFinish_keeps p)
    · exact .refl s

theorem takeLogout_keeps (p : PrinterNo) (body : List Byte) (s : State) : s.Keeps (takeLogout p body s).1 := by
  unfold takeLogout
  split
  · exact .refl s
  · next x hx =>
    split
    · exact State.endSession_keeps _ _
    · split
      · exact .refl s
      · split
        · exact State.endSession_keeps _ _
        · refine State.Keeps.trans ?_ (State.setEndSession_keeps p .loggedOut)
          exact State.setSession_keeps hx ⟨rfl, List.nil_sublist _⟩

theorem State.windowExpired_keeps (p : PrinterNo) : s.Keeps (s.windowExpired p) := by
  unfold State.windowExpired
  split
  · split
    · exact State.endSession_keeps _ _
    · exact .refl s
  · exact .refl s

/-! ### The conditions block (chapter 9) -/

theorem State.stopJob_keeps (p : PrinterNo) (e : Enrolled) (noAnswer : Bool) : s.Keeps (s.stopJob p e noAnswer) := by
  unfold State.stopJob
  split
  · exact .refl s
  · split
    · exact .refl s
    · next j ha =>
      obtain ⟨hj, cam, hact⟩ := State.activeAt_eq_some.mp ha
      split
      · next q cam' hs =>
        rw [hs] at hact
        cases hact
        split
        · exact State.setJob_keeps hj ⟨rfl, rfl, by rw [hs]; rfl, by rw [hs]; rfl⟩
        · exact State.conditionRehold_keeps p
      · split
        · exact State.conditionRehold_keeps p
        · exact .refl s
      · exact State.conditionRehold_keeps p

theorem State.stopSession_keeps (p : PrinterNo) : s.Keeps (s.stopSession p) := by
  unfold State.stopSession
  split
  · split
    · exact .refl s
    · exact State.endSession_keeps _ _
  · exact .refl s

theorem State.stopEffects_keeps (p : PrinterNo) (noAnswer : Bool) : s.Keeps (s.stopEffects p noAnswer) := by
  unfold State.stopEffects
  split
  · exact (State.stopJob_keeps _ _ _).trans (State.stopSession_keeps p)
  · exact .refl s

theorem State.setClass_keeps (he : s.enrolled p = some e) (cls : CondClass) (code : Byte) (timer : Option Nat) :
    s.Keeps (s.setClass p e cls code timer) :=
  State.setPrinter_keeps (State.enrolled_eq_some.mp he ▸ .enrolled rfl rfl rfl rfl id)

theorem State.raiseCode_keeps (p : PrinterNo) (cls : CondClass) (code : Byte) (noAnswer : Bool) :
    s.Keeps (s.raiseCode p cls code noAnswer) := by
  unfold State.raiseCode
  split
  · exact .refl s
  · next e he =>
    split
    · exact ((State.setClass_keeps he _ _ _).trans (State.handSlotEmpty_keeps _ _ _)).trans (State.stopEffects_keeps _ _)
    · split
      · exact State.handSlotEmpty_keeps _ _ _
      · exact (((State.setClass_keeps he _ _ _).trans (State.handSlotEmpty_keeps _ _ _)).trans
          (State.calloutTakesCode_keeps _ _ _)).trans (State.stopEffects_keeps _ _)

theorem State.clearClass_keeps (p : PrinterNo) (cls : CondClass) : s.Keeps (s.clearClass p cls) := by
  unfold State.clearClass
  split
  · exact .refl s
  · next e he =>
    split
    · exact .refl s
    · exact (State.setClass_keeps he _ _ _).trans (State.clearCallout_keeps _ _)

theorem State.clearNoAnswer_keeps (p : PrinterNo) : s.Keeps (s.clearNoAnswer p) := by
  unfold State.clearNoAnswer
  split
  · split
    · exact State.clearClass_keeps _ _
    · exact .refl s
  · exact .refl s

theorem takeCondition_keeps (p : PrinterNo) (body : List Byte) (s : State) : s.Keeps (takeCondition p body s).1 := by
  unfold takeCondition
  split
  · exact .refl s
  · dsimp only
    split
    · exact .refl s
    · split
      · exact State.clearClass_keeps _ _
      · exact State.raiseCode_keeps _ _ _ _

theorem State.openCallout_keeps (p : PrinterNo) (cls : CondClass) (code : Byte) :
    s.Keeps (s.openCallout p cls code) := by
  unfold State.openCallout
  dsimp only
  split
  · exact .refl s
  · split
    · exact ((State.setCallout_keeps _ _ _).trans (State.raise_keeps _ _)).trans (State.conditionRehold_keeps p)
    · exact (State.setCallout_keeps _ _ _).trans (State.raise_keeps _ _)

theorem State.graceExpired_keeps (p : PrinterNo) (cls : CondClass) : s.Keeps (s.graceExpired p cls) := by
  unfold State.graceExpired
  split
  · exact .refl s
  · next e he =>
    split
    · exact (State.setClass_keeps he _ _ _).trans (State.openCallout_keeps _ _ _)
    · exact .refl s

theorem State.suspendExpired_keeps (p : PrinterNo) : s.Keeps (s.suspendExpired p) := by
  unfold State.suspendExpired
  split
  · exact .refl s
  · split
    · exact .refl s
    · split
      · exact State.conditionRehold_keeps p
      · exact .refl s

theorem takeJobResumed_keeps (p : PrinterNo) (body : List Byte) (s : State) : s.Keeps (takeJobResumed p body s).1 := by
  unfold takeJobResumed
  dsimp only
  split
  · next j ha =>
    obtain ⟨hj, cam, hact⟩ := State.activeAt_eq_some.mp ha
    split
    · next q cam' _ hs =>
      rw [hs] at hact
      cases hact
      exact State.setJob_keeps hj ⟨rfl, rfl, by rw [hs]; rfl, by rw [hs]; rfl⟩
    · exact .refl s
  · exact .refl s

theorem State.replaceCartridge_keeps {slot : Nat} {y : Slot} (hx : s.slot p slot = some y) (identity : Word32) :
    s.Keeps (s.replaceCartridge p slot y identity) := by
  have first : s.Keeps ((s.setSlot p slot (y.replaced identity)).reorderReplaced p slot y) :=
    (State.setSlot_keeps hx fun h => h.replaced identity).trans (State.reorderReplaced_keeps (State.setSlot_slot hx))
  unfold State.replaceCartridge
  dsimp only
  split
  · split
    · exact first.trans (State.conditionRehold_keeps p)
    · exact first
  · exact first

theorem takeCartridge_keeps (p : PrinterNo) (body : List Byte) (s : State) : s.Keeps (takeCartridge p body s).1 := by
  unfold takeCartridge
  dsimp only
  split
  · exact .refl s
  · next y hy =>
    split
    · exact State.setSlot_keeps hy fun h => h.withPresent _
    · split
      · exact State.setSlot_keeps hy fun h => h.withPresent _
      · exact State.replaceCartridge_keeps hy _

theorem takeSides_keeps (p : PrinterNo) (body : List Byte) (s : State) : s.Keeps (takeSides p body s).1 := by
  have charged {h : Handle} {j : Job} {q : PrinterNo} {cam cam' colour : Bool} {sides : Nat} (hj : s.job h = some j)
      (ha : j.state.active = some (q, cam')) : s.Keeps ((s.chargeSides h j cam colour sides).consumeSides p j.large
        sides body) :=
    (State.chargeSides_keeps hj ha).trans (State.consumeSides_keeps _ _ _ _)
  unfold takeSides
  dsimp only
  split
  · exact .refl s
  · next j hj =>
    split
    · next q cam hs =>
      split
      · split
        · exact .refl s
        · exact charged hj (by rw [hs]; rfl)
      · exact .refl s
    · next q cam _ hs =>
      split
      · split
        · exact .refl s
        · exact charged hj (by rw [hs]; rfl)
      · exact .refl s
    · exact .refl s

/-! ### The riser channels (chapter 2) -/

theorem State.heard_keeps (p : PrinterNo) (keep : Bool) : s.Keeps (s.heard p keep) := by
  unfold State.heard
  split
  · exact .refl s
  · dsimp only
    split
    · exact State.setPosition_keeps _ _
    · exact (State.setPosition_keeps _ _).trans (State.clearNoAnswer_keeps p)

/-- The slots of a valid descriptor: 1 to 5, full and fresh (R8, R12). -/
theorem slotsOf_derived (hd : descriptorValid body = true) :
    1 ≤ (slotsOf body).length ∧ (slotsOf body).length ≤ 5 ∧ ∀ x ∈ slotsOf body, x.Derived := by
  simp only [descriptorValid, Bool.and_eq_true, decide_eq_true_eq, List.all_eq_true, List.mem_range] at hd
  obtain ⟨⟨⟨⟨⟨-, h1⟩, h2⟩, hall⟩, -⟩, -⟩ := hd
  simp only [slotsOf, List.length_map, List.length_range, List.mem_map, List.mem_range]
  refine ⟨h1, h2, ?_⟩
  rintro _ ⟨i, hi, rfl⟩
  exact slotOfEntry_derived (hall i hi).2

theorem State.failEnrolment_keeps {who : Option (PortNo × Byte)} {cause : EnrolCause}
    (hp : (s.printers.rd p).enrolled? = none) : s.Keeps (s.failEnrolment p who cause) := by
  refine State.Keeps.trans (State.setPrinter_keeps ?_) (State.answerEnrolment_keeps _ _ _)
  exact .unenrolled hp rfl

theorem State.described_keeps (p : PrinterNo) (body : List Byte) : s.Keeps (s.described p body) := by
  unfold State.described
  split
  · next sh who hp =>
    have hnone : (s.printers.rd p).enrolled? = none := by rw [hp]; rfl
    split
    · next hd =>
      exact ((State.enrol_keeps hnone rfl (slotsOf_derived hd)).trans (State.setPosition_keeps _ _)).trans
        (State.answerEnrolment_keeps _ _ _)
    · exact State.failEnrolment_keeps hnone
  · exact .refl s

theorem State.answered_keeps (p : PrinterNo) (sent : RiserRequest) (body : List Byte) :
    s.Keeps (s.answered p sent body) := by
  unfold State.answered
  split
  · exact State.described_keeps p body
  · exact State.grantAnswered_keeps _ p body
  · exact State.setPosition_keeps _ _
  all_goals exact .refl s

theorem State.answerFrame_keeps (c : ChannelNo) (k : PositionNo) (kind : Byte) (body : List Byte) :
    s.Keeps (s.answerFrame c k kind body) := by
  unfold State.answerFrame
  dsimp only
  split
  · exact .refl s
  · split
    · split
      · exact (((State.heard_keeps _ _).trans (State.setChannel_keeps _ _)).trans (State.answered_keeps _ _ _)).trans
          (serveChannels_keeps _)
      · exact State.heard_keeps _ _
    · exact State.heard_keeps _ _

theorem takeReport_keeps (kind : Nat) (p : PrinterNo) (body : List Byte) (s : State) :
    s.Keeps (takeReport kind p body s).1 := by
  unfold takeReport
  split
  · exact takePresent_keeps p body s
  · exact takeSelect_keeps p body s
  · exact takeLogout_keeps p body s
  · exact takeJobStart_keeps p body s
  · exact takeSides_keeps p body s
  · exact takeJobResumed_keeps p body s
  · exact takeJobEnd_keeps p body s
  · exact takeCondition_keeps p body s
  · exact takeCartridge_keeps p body s

theorem examineReport_keeps (kind : Byte) (p : PrinterNo) (body : List Byte) (s : State) :
    s.Keeps (examineReport kind p body s).1 := by
  unfold examineReport
  split
  · exact .refl s
  · split
    · exact .refl s
    · split
      · exact .refl s
      · split
        · exact .refl s
        · exact takeReport_keeps _ p body s

theorem State.endReport_keeps (c : ChannelNo) (k : PositionNo) (line : Bool) (answer : Option ReportAnswer) :
    s.Keeps (s.endReport c k line answer) := by
  have first : s.Keeps ((s.setLine (printerAt c k) line).setChannel c .idle) :=
    (State.setLine_keeps _ _).trans (State.setChannel_keeps _ _)
  unfold State.endReport
  dsimp only
  split
  · exact first.trans (.floor _ _ _ _ _ _ _ _ _ _)
  · exact first

theorem State.reportFrame_keeps (c : ChannelNo) (k : PositionNo) (kind : Byte) (body : List Byte) (line : Bool) :
    s.Keeps (s.reportFrame c k kind body line) := by
  unfold State.reportFrame
  dsimp only
  split
  · exact .refl s
  · split
    · split
      · split
        · exact ((State.heard_keeps _ _).trans (State.endReport_keeps _ _ _ _)).trans (serveChannels_keeps _)
        · exact (((State.heard_keeps _ _).trans (examineReport_keeps _ _ _ _)).trans
            (State.endReport_keeps _ _ _ _)).trans (serveChannels_keeps _)
      · exact State.heard_keeps _ _
    · exact State.heard_keeps _ _

theorem State.adapterFrame_keeps (c : ChannelNo) (k : PositionNo) (b kind : Byte) (body : List Byte) (line : Bool) :
    s.Keeps (s.adapterFrame c k b kind body line) := by
  unfold State.adapterFrame
  split
  · exact State.answerFrame_keeps c k kind body
  · split
    · exact State.reportFrame_keeps c k kind body line
    · split
      · exact .refl s
      · exact State.heard_keeps _ _

theorem State.requestTimeout_keeps (c : ChannelNo) : s.Keeps (s.requestTimeout c) := by
  unfold State.requestTimeout
  split
  · dsimp only
    split
    · exact (State.setChannel_keeps _ _).trans (State.raiseCode_keeps _ _ _ _)
    · next sh who hp =>
      split
      · exact (State.setChannel_keeps c .idle).trans (State.failEnrolment_keeps (by rw [hp]; rfl))
      · exact State.setChannel_keeps _ _
    · exact State.setChannel_keeps _ _
  · exact .refl s

theorem State.callTimeout_keeps (c : ChannelNo) : s.Keeps (s.callTimeout c) := by
  unfold State.callTimeout
  split
  · exact (State.setChannel_keeps _ _).trans (State.raiseCode_keeps _ _ _ _)
  · exact .refl s

theorem State.silenceExpired_keeps (p : PrinterNo) : s.Keeps (s.silenceExpired p) := by
  unfold State.silenceExpired
  split
  · exact State.setPosition_keeps _ _
  · exact .refl s

end Sys2Proof.Machine
end


section
/-! SUPPORT. What the work of each request comes to: refused with nothing changed, or done with every invariant
kept. -/

namespace Sys2Proof.Machine

variable {s t u : State} {p q : PrinterNo} {e : Enrolled} {body : List Byte} {port : PortNo} {tag : Byte}
  {v : TenantNo} {P Q : State → Prop} {w : State × Option Reply}

/-! ### Work -/

/-- What a block's work on a request comes to: refused with nothing changed, or a state with `P`, with the ACCEPTED
answer or none yet, and the ports untouched. -/
inductive Worked (P : State → Prop) (s : State) : State × Option Reply → Prop where
  | refused (r : Reason) : Worked P s (refuse r s)
  | accepted {t : State} {b : List Byte} (h : P t) : Worked P s (accept b t)
  | waiting {t : State} (h : P t) (hports : t.ports = s.ports) : Worked P s (t, none)

theorem Worked.mono (h : Worked P s w) (hpq : ∀ t, P t → Q t) : Worked Q s w := by
  cases h with
  | refused r => exact .refused r
  | accepted h => exact .accepted (hpq _ h)
  | waiting h hports => exact .waiting (hpq _ h) hports

/-- No mark is set, and the channels and the service request lines stay: the arbiters have nothing new to choose. -/
structure State.Calm (s t : State) : Prop where
  channels : t.channels = s.channels
  lines : t.serviceLines = s.serviceLines
  marks : ∀ p kind, (t.positions.rd p).marked kind = true → (s.positions.rd p).marked kind = true

theorem State.Calm.refl (s : State) : s.Calm s := ⟨rfl, rfl, fun _ _ => id⟩

theorem State.Calm.trans (h : s.Calm t) (h' : t.Calm u) : s.Calm u :=
  ⟨h'.channels.trans h.channels, h'.lines.trans h.lines, fun p kind hm => h.marks p kind (h'.marks p kind hm)⟩

theorem State.Quiet.calm (hq : s.Quiet) (h : s.Calm t) : t.Quiet := fun c k hc => by
  obtain ⟨hm, hl⟩ := hq c k (h.channels ▸ hc)
  refine ⟨fun kind => ?_, h.lines ▸ hl⟩
  by_contra hne
  exact Bool.false_ne_true ((hm kind).symm.trans (h.marks _ kind (Bool.eq_true_of_not_eq_false hne)))

/-- Every invariant kept, the arbiters' among them. -/
def State.KeepsCalm (s t : State) : Prop := s.Keeps t ∧ s.Calm t

theorem State.KeepsCalm.refl (s : State) : s.KeepsCalm s := ⟨.refl s, .refl s⟩

theorem Worked.same (b : List Byte) : Worked s.KeepsCalm s (accept b s) := .accepted (.refl s)

theorem onPrinter_worked {f : PrinterNo → State → State × Option Reply} (h : ∀ p, Worked P s (f p s)) :
    Worked P s (onPrinter body s f) := by
  unfold onPrinter
  split
  · exact .refused _
  · split
    · exact h _
    · exact .refused _

theorem onTenantNumber_worked {f : TenantNo → State → State × Option Reply} (h : ∀ v, Worked P s (f v s)) :
    Worked P s (onTenantNumber body s f) := by
  unfold onTenantNumber
  split
  · exact .refused _
  · split
    · exact h _
    · exact .refused _

theorem onTenant_worked {f : TenantNo → State → State × Option Reply} (h : ∀ v, Worked P s (f v s)) :
    Worked P s (onTenant s port f) := by
  unfold onTenant
  split
  · exact h _
  · exact .refused _

theorem onCallout_worked {f : CalloutNo → Callout → State → State × Option Reply} (h : ∀ n x, Worked P s (f n x s)) :
    Worked P s (onCallout body s f) := by
  unfold onCallout
  split
  · exact .refused _
  · split
    · exact .refused _
    · split
      · exact .refused _
      · exact h _ _

/-! ### Printers -/

theorem State.endSession_setPrinter (x : Printer) (reason : EndReason) :
    (s.setPrinter p x).endSession q reason = (s.endSession q reason).setPrinter p x := by
  unfold State.endSession
  rw [State.setPrinter_sessions]
  split
  · rfl
  · dsimp only
    split <;> rfl

theorem workEnrolPrinter_worked : Worked s.Keeps s (workEnrolPrinter port tag body s) := by
  unfold workEnrolPrinter
  split
  · exact .refused _
  · split
    · split
      · exact .refused _
      · split
        · next hp =>
          refine .waiting ?_ rfl
          refine State.Keeps.trans ?_ (State.setMark_keeps _ _)
          exact State.setPrinter_keeps (by rw [hp]; exact .unenrolled rfl rfl)
        · exact .refused _
    · exact .refused _

theorem workDisablePrinter_worked (p : PrinterNo) : Worked s.Keeps s (workDisablePrinter p s) := by
  unfold workDisablePrinter
  split
  · exact .refused _
  · next e he =>
    split
    · next hv =>
      refine .accepted ?_
      unfold State.setEnrolled
      rw [State.endSession_setPrinter]
      refine (State.endSession_keeps p _).trans (State.setService_keeps (e := e) ?_ rfl rfl ?_ ?_)
      · exact State.enrolled_eq_some.mp ((State.endSession_enrolled _ _).trans he)
      · intro x hx
        rw [State.endSession_sessions, if_pos rfl] at hx
        cases hx
      · cases ha : e.activeJob with
        | none => exact fun _ => .inr rfl
        | some h => exact fun h => absurd h (by simp)
    · exact .accepted (.refl s)

theorem workEnablePrinter_worked (p : PrinterNo) : Worked s.KeepsCalm s (workEnablePrinter p s) := by
  unfold workEnablePrinter
  split
  · exact .refused _
  · next e he =>
    refine .accepted ⟨State.setService_keeps (State.enrolled_eq_some.mp he) rfl rfl ?_ ?_, rfl, rfl, fun _ _ => id⟩
    · exact fun x _ _ hg => ⟨rfl, hg⟩
    · exact fun h => nomatch h

theorem State.reordersRemoved_printers (p : PrinterNo) : (s.reordersRemoved p).printers = s.printers := by
  obtain ⟨_, _, h⟩ := s.reordersRemoved_frame p
  rw [h]

theorem workRemovePrinter_worked (p : PrinterNo) : Worked s.KeepsCalm s (workRemovePrinter p s) := by
  unfold workRemovePrinter
  split
  · exact .refused _
  · next e he =>
    split
    · next hd =>
      refine .accepted ⟨?_, ?_⟩
      · refine ((State.freeCallouts_keeps p).trans (State.reordersRemoved_keeps p)).trans ?_
        refine (State.setPosition_keeps _ _).trans (State.removePrinter_keeps (e := e) ?_ hd)
        rw [State.setPosition_printers, State.reordersRemoved_printers]
        exact State.enrolled_eq_some.mp he
      · obtain ⟨rs, ps, h⟩ := (s.freeCallouts p).reordersRemoved_frame p
        rw [h]
        refine ⟨rfl, rfl, fun q kind hm => ?_⟩
        simp only [State.setPrinter_positions, State.setPosition_positions, Table.rd_wr] at hm
        split at hm
        · exact absurd hm (by cases kind <;> decide)
        · exact hm
    · exact .refused _

theorem State.endLostAccess_keeps {sh : Sharing} (he : s.enrolled p = some e) :
    s.Keeps ((s.setEnrolled p { e with sharing := sh }).endLostAccess p sh) := by
  have hp := State.enrolled_eq_some.mp he
  unfold State.endLostAccess
  cases hx : (s.setEnrolled p { e with sharing := sh }).sessions.rd p with
  | none =>
    refine State.setService_keeps hp rfl rfl (fun x hx' => ?_) .inl
    cases hx.symm.trans hx'
  | some x =>
    dsimp only
    split
    · next hg =>
      refine State.setService_keeps hp rfl rfl (fun y hy hv _ => ⟨hv, ?_⟩) .inl
      cases hx.symm.trans hy
      exact hg
    · unfold State.setEnrolled
      rw [State.endSession_setPrinter]
      refine (State.endSession_keeps p _).trans (State.setService_keeps (e := e) ?_ rfl rfl ?_ .inl)
      · exact State.enrolled_eq_some.mp ((State.endSession_enrolled _ _).trans he)
      · intro x hx
        rw [State.endSession_sessions, if_pos rfl] at hx
        cases hx

theorem workSetSharing_worked : Worked s.Keeps s (workSetSharing body s) := by
  unfold workSetSharing
  split
  · exact .refused _
  · split
    · split
      · exact .refused _
      · split
        · exact .refused _
        · next e he => exact .accepted (State.endLostAccess_keeps he)
    · exact .refused _

theorem workQueryPrinter_worked (p : PrinterNo) : Worked s.KeepsCalm s (workQueryPrinter port p s) := by
  unfold workQueryPrinter
  split
  · exact .same _
  · split
    · split
      · exact .same _
      · exact .refused _
    · exact .refused _
  · exact .refused _

/-- The re-hold of a GRANTED active job, the first of RESET CHANNEL's steps at a printer (R37 step 3). -/
def State.reholdGranted (s : State) (p : PrinterNo) : State :=
  match s.activeJob p with
  | some h => match s.grantedAt h p with
    | some _ => (s.rehold h p).getD s
    | none => s
  | none => s

/-- What RESET CHANNEL does at a printer by its service state, once the session has ended (R37 steps 5 and 6). -/
def State.resetAdapter (s : State) (p : PrinterNo) : State :=
  match s.printers.rd p with
  | .absent => s
  | .enrolling _ requester => s.failEnrolment p requester .channelReset
  | .enrolled _ => s.setPosition p { s.positions.rd p with resync := true, probe := true }

theorem State.resetPrinter_eq (p : PrinterNo) :
    s.resetPrinter p = ((s.reholdGranted p).endSession p .channelReset).resetAdapter p := rfl

theorem State.reholdGranted_keeps (p : PrinterNo) : s.Keeps (s.reholdGranted p) := by
  unfold State.reholdGranted
  split
  · next h _ =>
    split
    · cases hr : s.rehold h p with
      | none => exact .refl s
      | some t => exact State.rehold_keeps hr
    · exact .refl s
  · exact .refl s

theorem State.resetAdapter_keeps (p : PrinterNo) : s.Keeps (s.resetAdapter p) := by
  unfold State.resetAdapter
  split
  · exact .refl s
  · next hp => exact State.failEnrolment_keeps (by rw [hp]; rfl)
  · exact State.setPosition_keeps _ _

theorem State.resetPrinter_keeps (p : PrinterNo) : s.Keeps (s.resetPrinter p) := by
  rw [State.resetPrinter_eq]
  exact ((State.reholdGranted_keeps p).trans (State.endSession_keeps p _)).trans (State.resetAdapter_keeps p)

theorem State.resetChannel_keeps (c : ChannelNo) : s.Keeps (s.resetChannel c) := by
  unfold State.resetChannel
  refine State.Keeps.trans ?_ (State.Keeps.foldl (fun _ k => State.resetPrinter_keeps (printerAt c k)) _ _)
  exact State.Keeps.floor _ _ _ _ _ _ _ _ _ _

theorem workResetChannel_worked : Worked s.Keeps s (workResetChannel body s) := by
  unfold workResetChannel
  split
  · exact .refused _
  · split
    · exact .accepted (State.resetChannel_keeps _)
    · exact .refused _

/-! ### Tenants -/

theorem State.exhaustPool_calm (v : TenantNo) : s.Calm (s.exhaustPool v) := by
  obtain ⟨_, _, h⟩ := s.exhaustPool_frame v
  rw [h]
  exact ⟨rfl, rfl, fun _ _ => id⟩

theorem State.exhaustAccount_calm (key : AccountKey) : s.Calm (s.exhaustAccount key) := by
  obtain ⟨_, _, h⟩ := s.exhaustAccount_frame key
  rw [h]
  exact ⟨rfl, rfl, fun _ _ => id⟩

theorem definedBy_fresh {x : Tenant} (h : definedBy body = some (v, x)) :
    x.liveJobs = 0 ∧ x.accountCount = 0 ∧ x.poolReserved = 0 := by
  unfold definedBy at h
  split at h
  · cases h
  · simp only [Option.bind_eq_bind, Option.bind_eq_some_iff] at h
    obtain ⟨_, _, _, _, _, _, _, _, _, _, _, _, h⟩ := h
    simp only [Option.some.injEq, Prod.mk.injEq] at h
    grind

theorem workDefineTenant_worked : Worked s.KeepsCalm s (workDefineTenant body s) := by
  unfold workDefineTenant
  split
  · exact .refused _
  · next v x hd =>
    split
    · exact .refused _
    · next hv =>
      obtain ⟨h0, h1, h2⟩ := definedBy_fresh hd
      refine .accepted ⟨(State.newTenant_keeps ?_ h0 h1 h2).trans (State.exhaustPool_keeps v), ?_⟩
      · exact Option.not_isSome_iff_eq_none.mp hv
      · exact State.Calm.trans (t := s.setTenant v (some x)) ⟨rfl, rfl, fun _ _ => id⟩ (State.exhaustPool_calm v)

theorem Tenant.amend_soft {x : Tenant} {c : TenantChanges} (h : ¬ c.belowCount x = true) : x.Soft (x.amend c) := by
  unfold TenantChanges.belowCount at h
  refine ⟨rfl, rfl, rfl, fun hl => ?_, fun hl => ?_⟩
  · cases hj : c.jobLimit with
    | none => simpa [Tenant.amend, hj] using hl
    | some l => simp [hj] at h; simpa [Tenant.amend, hj] using h.1
  · cases hj : c.accountLimit with
    | none => simpa [Tenant.amend, hj] using hl
    | some l => simp [hj] at h; simpa [Tenant.amend, hj] using h.2

theorem workAmendTenant_worked : Worked s.KeepsCalm s (workAmendTenant body s) := by
  unfold workAmendTenant
  split
  · exact .refused _
  · next v c _ =>
    split
    · exact .refused _
    · next x hx =>
      split
      · exact .refused _
      · next hb =>
        have h1 := State.setTenant_keeps hx (Tenant.amend_soft hb)
        have hc : s.Calm (s.setTenant v (some (x.amend c))) := ⟨rfl, rfl, fun _ _ => id⟩
        refine .accepted ?_
        split
        · exact ⟨h1.trans (State.exhaustPool_keeps v), hc.trans (State.exhaustPool_calm v)⟩
        · exact ⟨h1, hc⟩

theorem workRenewPool_worked (v : TenantNo) : Worked s.KeepsCalm s (workRenewPool v s) := by
  unfold workRenewPool
  split
  · exact .refused _
  · next x hx =>
    refine .accepted ⟨?_, rfl, rfl, fun _ _ => id⟩
    refine State.Keeps.trans ?_ (State.raise_keeps _ _)
    exact State.setTenant_keeps hx ⟨rfl, rfl, rfl, id, id⟩

theorem workQueryTenant_worked (v : TenantNo) : Worked s.KeepsCalm s (workQueryTenant port v s) := by
  have read : Worked s.KeepsCalm s (match s.tenants.rd v with
      | some x => accept (tenantBody x) s
      | none => accept (be1 0) s) := by
    split <;> exact .same _
  unfold workQueryTenant
  dsimp only
  split
  · exact read
  · split
    · exact read
    · exact .refused _
  · exact .refused _

end Sys2Proof.Machine
end


section
/-! SUPPORT. The work of the tenant, account, job, supplies, callout and port requests, refused or done with every
invariant kept. -/

namespace Sys2Proof.Machine

variable {s t u : State} {p q : PrinterNo} {h : Handle} {i j : Job} {e : Enrolled} {body : List Byte} {port : PortNo}
  {tag : Byte} {v w : TenantNo} {key : AccountKey} {n : RecordNo}

/-! ### Removing a tenant (R45) -/

theorem foldl_endTenantSessions (l : List PrinterNo) (y : Session) (q : PrinterNo)
    (hy : (l.foldl (fun s p => if (s.sessions.rd p).any (fun x => decide (x.account.tenant = v))
      then s.endSession p .tenantRemoved else s) s).sessions.rd q = some y) :
    s.sessions.rd q = some y ∧ (q ∈ l → y.account.tenant ≠ v) := by
  induction l generalizing s with
  | nil => exact ⟨hy, fun h => absurd h List.not_mem_nil⟩
  | cons p l ih =>
    obtain ⟨h1, h2⟩ := ih hy
    dsimp only at h1
    split at h1
    · next hp =>
      rw [State.endSession_sessions] at h1
      split at h1
      · cases h1
      · next hpq => exact ⟨h1, fun hm => h2 ((List.mem_cons.mp hm).resolve_left (Ne.symm hpq))⟩
    · next hp =>
      refine ⟨h1, fun hm => ?_⟩
      rcases List.mem_cons.mp hm with rfl | hm
      · simpa [h1] using hp
      · exact h2 hm

theorem State.endTenantSessions_sessions {y : Session} (hy : (s.endTenantSessions v).sessions.rd p = some y) :
    s.sessions.rd p = some y ∧ y.account.tenant ≠ v := by
  obtain ⟨h1, h2⟩ := foldl_endTenantSessions (List.finRange 64) y p hy
  exact ⟨h1, h2 (List.mem_finRange p)⟩

theorem State.endTenantSessions_keeps (v : TenantNo) : s.Keeps (s.endTenantSessions v) := by
  refine State.Keeps.foldl (fun s p => ?_) _ _
  split
  · exact State.endSession_keeps _ _
  · exact .refl s

theorem State.endSession_jobAt (reason : EndReason) (n : RecordNo) : (s.endSession p reason).jobAt n = s.jobAt n := by
  obtain ⟨_, _, _, h⟩ := s.endSession_frame p reason
  rw [h]
  rfl

theorem State.endTenantSessions_jobAt (v : TenantNo) (n : RecordNo) :
    (s.endTenantSessions v).jobAt n = s.jobAt n := by
  unfold State.endTenantSessions
  generalize List.finRange 64 = l
  induction l generalizing s with
  | nil => rfl
  | cons p l ih =>
    rw [List.foldl_cons, ih]
    split
    · exact State.endSession_jobAt _ _
    · rfl

theorem State.freeWhere_sessions (which : Job → Bool) {y : Session}
    (hy : (s.freeWhere which).sessions.rd p = some y) :
    ∃ x, s.sessions.rd p = some x ∧ y.account = x.account := by
  rw [State.freeWhere_eq] at hy
  exact foldl_freeRecord_sessions (s := { s with draws := s.draws + 1 }) (s.freeing which) hy

/-- No job of the tenant is active, so every job of it may be freed (R45). -/
theorem State.tenantActive_eq_false (h : ¬ s.tenantActive v = true) (hj : s.jobAt n = some j)
    (ho : j.owner.tenant = v) : j.state.active = none := by
  by_contra hne
  refine h (List.any_eq_true.mpr ⟨s.jobs.rd n, Table.mem_cells.mpr ⟨n, rfl⟩, ?_⟩)
  have : (s.jobs.rd n).job = some j := hj
  simp [this, ho, Option.isSome_iff_ne_none, hne]

theorem workRemoveTenant_worked (v : TenantNo) : Worked s.Keeps s (workRemoveTenant v s) := by
  unfold workRemoveTenant
  split
  · exact .refused _
  · split
    · exact .refused _
    · next ha =>
      have h1 := State.endTenantSessions_keeps (s := s) v
      have h2 : (s.endTenantSessions v).Keeps
          ((s.endTenantSessions v).freeWhere fun j => decide (j.owner.tenant = v)) :=
        State.freeWhere_keeps fun _ n j hj ho =>
          State.tenantActive_eq_false ha (State.endTenantSessions_jobAt v n ▸ hj) (of_decide_eq_true ho)
      refine .accepted ((h1.trans h2).trans (State.dropTenant_keeps ?_ ?_))
      · intro _ n j hj ho
        rw [State.freeWhere_jobAt] at hj
        split at hj
        · cases hj
        · next hno => exact hno (by simp [hj, ho])
      · intro p y hy hv
        obtain ⟨x, hx, hk⟩ := State.freeWhere_sessions _ hy
        exact (State.endTenantSessions_sessions hx).2 (hk ▸ hv)

/-! ### Accounts -/

theorem State.modTenant_calm (v : TenantNo) (f : Tenant → Tenant) : s.Calm (s.modTenant v f) := by
  obtain ⟨_, h⟩ := s.modTenant_frame v f
  rw [h]
  exact ⟨rfl, rfl, fun _ _ => id⟩

theorem accountKeyAt_tenant {i : Nat} (h : accountKeyAt v body i = some key) : key.tenant = v := by
  unfold accountKeyAt at h
  split at h
  · cases h
  · exact (Option.some.inj h) ▸ rfl

theorem workCreateAccount_worked (v : TenantNo) : Worked s.KeepsCalm s (workCreateAccount body v s) := by
  unfold workCreateAccount
  split
  · exact .refused _
  · split
    · next key choice hkey _ =>
      obtain rfl := accountKeyAt_tenant hkey
      split
      · exact .refused _
      · next x hx =>
        dsimp only
        split
        · exact .refused _
        · next hdup =>
          split
          · exact .refused _
          · next hlimit =>
            split
            · exact .refused _
            · refine .accepted ⟨State.addAccount_keeps ?_ hx (Nat.lt_of_not_le hlimit) rfl rfl rfl, ?_⟩
              · simp only [Bool.or_eq_true, not_or] at hdup
                exact Option.not_isSome_iff_eq_none.mp hdup.1
              · refine State.Calm.trans (State.Calm.trans ?_ (State.modTenant_calm _ _)) (State.exhaustAccount_calm _)
                exact ⟨rfl, rfl, fun _ _ => id⟩
    · exact .refused _

theorem workQueryAccount_worked (v : TenantNo) : Worked s.KeepsCalm s (workQueryAccount body v s) := by
  unfold workQueryAccount
  split
  · exact .refused _
  · split
    · split
      · exact .same _
      · exact .refused _
    · exact .refused _

theorem State.amendAccount_keeps {a : Account} {x : Tenant} {c : AccountChanges} : s.Keeps (s.amendAccount a x c) := by
  have h1 : s.Keeps (s.modAccount a.key fun a => a.amend x c) :=
    State.modAccount_keeps fun a => ⟨rfl, rfl, rfl, rfl⟩
  have h2 : s.Keeps (if c.allowance.isSome then (s.modAccount a.key fun a => a.amend x c).exhaustAccount a.key
      else s.modAccount a.key fun a => a.amend x c) := by
    split
    · exact h1.trans (State.exhaustAccount_keeps _)
    · exact h1
  unfold State.amendAccount
  dsimp only
  split
  · exact h2.trans (State.endAccountSession_keeps a _)
  · exact h2

theorem workAmendAccount_worked (v : TenantNo) : Worked s.Keeps s (workAmendAccount body v s) := by
  unfold workAmendAccount
  split
  · exact .refused _
  · split
    · split
      · exact .refused _
      · exact .accepted State.amendAccount_keeps
    · exact .refused _

theorem State.endAccountSession_jobAt (a : Account) (reason : EndReason) (n : RecordNo) :
    (s.endAccountSession a reason).jobAt n = s.jobAt n := by
  unfold State.endAccountSession
  split
  · exact State.endSession_jobAt _ _
  · rfl

theorem State.endAccountSession_account (a : Account) (reason : EndReason) (key : AccountKey) :
    ((s.endAccountSession a reason).account key).isSome = (s.account key).isSome := by
  unfold State.endAccountSession
  split
  · exact State.endSession_account_isSome _ _
  · rfl

/-- Once its session has ended an account has none at any printer (R79). -/
theorem State.endAccountSession_sessions (hb : s.BooksKept) {a : Account} {reason : EndReason} (ha : s.account key = some a)
    {y : Session} (hy : (s.endAccountSession a reason).sessions.rd p = some y) : y.account ≠ key := by
  obtain ⟨-, -, -, -, hs⟩ := hb
  have none_of (hx : s.sessions.rd p = some y) (hk : y.account = key) : a.session = some p := by
    obtain ⟨b, hb, hp⟩ := hs.1 p y hx
    cases ha.symm.trans (hk ▸ hb)
    exact hp
  intro hk
  unfold State.endAccountSession at hy
  split at hy
  · next q hq =>
    rw [State.endSession_sessions] at hy
    split at hy
    · cases hy
    · next hne => exact hne (Option.some.inj (hq.symm.trans (none_of hy hk)))
  · next hq => cases hq.symm.trans (none_of hy hk)

theorem map_keys_mem {as : List Account} {f : Account → Account} (hf : ∀ a, (f a).key = a.key) :
    (∃ a ∈ as.map f, a.key = key) ↔ ∃ a ∈ as, a.key = key := by
  simp [hf]

theorem freeRecord_accounts_isSome (n : RecordNo) :
    ((s.freeRecord n).account key).isSome = (s.account key).isSome := by
  cases hj : s.jobAt n with
  | none => rw [State.freeRecord_of_none hj]
  | some j =>
    rw [State.freeRecord_eq hj, Bool.eq_iff_iff, State.account_isSome_iff, State.account_isSome_iff]
    dsimp only
    split
    · exact map_keys_mem fun a => by split <;> rfl
    · exact .rfl

theorem State.freeWhere_account (which : Job → Bool) (key : AccountKey) :
    ((s.freeWhere which).account key).isSome = (s.account key).isSome := by
  rw [State.freeWhere_eq]
  have (l : List RecordNo) (u : State) : ((l.foldl State.freeRecord u).account key).isSome = (u.account key).isSome := by
    induction l generalizing u with
    | nil => rfl
    | cons n l ih => rw [List.foldl_cons, ih, freeRecord_accounts_isSome]
  exact this _ _

theorem State.accountActive_eq_false (h : ¬ s.accountActive key = true) (hj : s.jobAt n = some j)
    (ho : j.owner = key) : j.state.active = none := by
  by_contra hne
  refine h (List.any_eq_true.mpr ⟨s.jobs.rd n, Table.mem_cells.mpr ⟨n, rfl⟩, ?_⟩)
  have : (s.jobs.rd n).job = some j := hj
  simp [this, ho, Option.isSome_iff_ne_none, hne]

theorem State.removeAccount_keeps {a : Account} (ha : s.account key = some a) (hidle : ¬ s.accountActive key = true) :
    s.Keeps (s.removeAccount a) := by
  have hk : a.key = key := State.account_key ha
  subst hk
  unfold State.removeAccount
  dsimp only
  have h1 := State.endAccountSession_keeps (s := s) a .accountRemoved
  have hidle' : ∀ j : Job, (decide (j.owner = a.key) && decide (j.state = .held)) = true → j.state.active = none :=
    fun j hw => by
      have : j.state = .held := by simp at hw; exact hw.2
      rw [this]
      rfl
  have h2 : (s.endAccountSession a .accountRemoved).Keeps _ := State.freeWhere_keeps fun _ n j _ => hidle' j
  refine State.Keeps.of_books ((h1.trans h2).blocks.trans (.trans (.ofLists _ _ _ _ _) (State.modTenant_blocks _ _)))
    fun hb => (h1.trans h2).trans ?_
  have hsome := (State.freeWhere_account (s := s.endAccountSession a .accountRemoved)
    (fun j => decide (j.owner = a.key) && decide (j.state = .held)) a.key).trans
    (State.endAccountSession_account a .accountRemoved a.key)
  rw [ha] at hsome
  obtain ⟨b, hbk⟩ := Option.isSome_iff_exists.mp hsome
  have hbk' : b.key = a.key := State.account_key hbk
  have := State.dropAccount_keeps (a := b) (fun _ => hbk' ▸ hbk) (fun _ n j hj ho => ?_) fun _ p y hy => ?_
  · rwa [hbk'] at this
  · rw [State.freeWhere_jobAt] at hj
    split at hj
    · cases hj
    · next hno =>
      have hact := State.accountActive_eq_false hidle (State.endAccountSession_jobAt a _ n ▸ hj) (ho.trans hbk')
      by_contra hu
      have hheld := JobState.held_iff.mpr ⟨hact, Bool.eq_true_of_not_eq_false hu⟩
      exact hno (by simp [hj, ho, hbk', hheld])
  · obtain ⟨x, hx, hxk⟩ := State.freeWhere_sessions _ hy
    rw [hxk, hbk']
    exact State.endAccountSession_sessions hb ha hx

theorem workRemoveAccount_worked (v : TenantNo) : Worked s.Keeps s (workRemoveAccount body v s) := by
  unfold workRemoveAccount
  split
  · exact .refused _
  · split
    · exact .refused _
    · split
      · exact .refused _
      · next a ha =>
        split
        · exact .refused _
        · next hidle => exact .accepted (State.removeAccount_keeps ha hidle)

theorem workRenewPeriod_worked (v : TenantNo) : Worked s.KeepsCalm s (workRenewPeriod body v s) := by
  unfold workRenewPeriod
  split
  · exact .refused _
  · split
    · exact .accepted ⟨State.renewWhere_keeps _, rfl, rfl, fun _ _ => id⟩
    · split
      · exact .accepted ⟨State.renewWhere_keeps _, rfl, rfl, fun _ _ => id⟩
      · exact .refused _
    · exact .refused _

/-! ### Jobs -/

theorem State.submit_calm (n : RecordNo) (rest : List RecordNo) (j : Job) : s.Calm (s.submit n rest j) := by
  unfold State.submit
  dsimp only
  refine State.Calm.trans ?_ (State.modTenant_calm _ _)
  exact ⟨rfl, rfl, fun _ _ => id⟩

theorem workSubmitJob_worked (v : TenantNo) : Worked s.KeepsCalm s (workSubmitJob body v s) := by
  unfold workSubmitJob
  split
  · exact .refused _
  · split
    · next key preferred hkey _ =>
      obtain rfl := accountKeyAt_tenant hkey
      split
      · next a x ha hx =>
        split
        · exact .refused _
        · split
          · exact .refused _
          · next hlimit =>
            split
            · exact .refused _
            · next n rest hfree =>
              exact .accepted ⟨State.submit_keeps hfree rfl rfl hx (Nat.lt_of_not_le hlimit) ha,
                State.submit_calm _ _ _⟩
      · exact .refused _
    · exact .refused _

theorem State.tenantJob_eq_some (hj : s.tenantJob h v = some j) : s.job h = some j ∧ j.owner.tenant = v := by
  unfold State.tenantJob at hj
  split at hj
  · next i hi =>
    split at hj
    · next ho => exact ⟨hj ▸ hi, (Option.some.inj hj) ▸ ho⟩
    · cases hj
  · cases hj

theorem workWithdraw_worked (v : TenantNo) : Worked s.Keeps s (workWithdraw body v s) := by
  unfold workWithdraw
  split
  · exact .refused _
  · dsimp only
    split
    · exact .refused _
    · next j hj =>
      split
      · next hheld =>
        refine .accepted (State.freeRecord_keeps fun _ i hi => ?_)
        cases (State.jobAt_of_job (State.tenantJob_eq_some hj).1).symm.trans hi
        rw [hheld]
        rfl
      · exact .refused _

theorem workQueryJob_worked : Worked s.KeepsCalm s (workQueryJob port body s) := by
  have byHandle (h : Handle) (o : Option Job) : Worked s.KeepsCalm s (s.answerJob h o) := by
    cases o with
    | none => exact .refused _
    | some j => exact .same _
  have byTag (v : TenantNo) (k : Nat) : Worked s.KeepsCalm s (s.answerJobOfTag v k) := by
    unfold State.answerJobOfTag
    split
    · exact byHandle _ _
    · exact .refused _
  unfold workQueryJob
  dsimp only
  split
  · split
    · exact byHandle _ _
    · exact .refused _
  · split
    · exact byHandle _ _
    · exact .refused _
  · split
    · exact .refused _
    · split
      · exact byTag _ _
      · exact .refused _
  · split
    · exact byTag _ _
    · exact .refused _
  · exact .refused _

theorem workTakeCompletions_worked (v : TenantNo) : Worked s.Keeps s (workTakeCompletions body v s) := by
  unfold workTakeCompletions
  split
  · exact .refused _
  · refine .accepted (foldl_freeRecord_keeps fun hb n hn j hj => ?_)
    obtain ⟨i, hi, hu, -⟩ := (hb.1.2.2.2.2.2 n v).mp (List.mem_of_mem_take hn)
    cases hi.symm.trans hj
    cases hs : j.state with
    | complete o c => rfl
    | _ => rw [hs] at hu; cases hu

/-! ### Supplies and callouts -/

theorem workQuerySlot_worked : Worked s.KeepsCalm s (workQuerySlot body s) := by
  unfold workQuerySlot
  split
  · exact .refused _
  · split
    · split
      · exact .same _
      · exact .refused _
    · exact .refused _

theorem workTakeOrders_worked : Worked s.KeepsCalm s (workTakeOrders body s) := by
  unfold workTakeOrders
  split
  · exact .refused _
  · exact .accepted ⟨State.sendOrders_keeps, rfl, rfl, fun _ _ => id⟩

theorem workConfirmOrder_worked : Worked s.KeepsCalm s (workConfirmOrder body s) := by
  unfold workConfirmOrder
  split
  · exact .refused _
  · split
    · exact .refused _
    · split
      · exact .refused _
      · next r hr =>
        split
        · next hsent =>
          refine .accepted ⟨State.confirm_keeps hr ⟨rfl, rfl, rfl, ?_⟩, rfl, rfl, fun _ _ => id⟩
          rw [hsent]
          rfl
        · exact .refused _

theorem workCancelOrder_worked : Worked s.KeepsCalm s (workCancelOrder body s) := by
  unfold workCancelOrder
  split
  · exact .refused _
  · split
    · exact .refused _
    · split
      · exact .refused _
      · next r hr =>
        split
        · next ho =>
          exact .accepted ⟨State.closeReorder_keeps _ (List.mem_of_find?_eq_some hr) ho, rfl, rfl, fun _ _ => id⟩
        · exact .refused _

theorem workSetLeadTime_worked : Worked s.KeepsCalm s (workSetLeadTime body s) := by
  unfold workSetLeadTime
  split
  · exact .refused _
  · exact .accepted ⟨State.Keeps.floor _ _ _ _ _ _ _ _ _ _, rfl, rfl, fun _ _ => id⟩

theorem workQueryOrder_worked : Worked s.KeepsCalm s (workQueryOrder body s) := by
  unfold workQueryOrder
  split
  · exact .refused _
  · split
    · split
      · exact .same _
      · exact .refused _
    · exact .refused _

theorem workAcknowledgeCallout_worked (n : CalloutNo) (x : Callout) :
    Worked s.KeepsCalm s (workAcknowledgeCallout n x s) := by
  unfold workAcknowledgeCallout
  split
  · exact .accepted ⟨State.setCallout_keeps _ _ _, rfl, rfl, fun _ _ => id⟩
  · exact .refused _

theorem workCloseCallout_worked (n : CalloutNo) (x : Callout) : Worked s.KeepsCalm s (workCloseCallout n x s) := by
  unfold workCloseCallout
  split
  · exact .accepted ⟨State.setCallout_keeps _ _ _, rfl, rfl, fun _ _ => id⟩
  · exact .refused _

theorem workQueryCallouts_worked : Worked s.KeepsCalm s (workQueryCallouts body s) := by
  unfold workQueryCallouts
  split
  · exact .refused _
  · split
    · exact .refused _
    · exact .same _

/-! ### Ports and the clock -/

theorem State.suppliesElsewhere_eq_false {n : PortNo} (h : ¬ s.suppliesElsewhere n = true) {m : PortNo} (hm : m ≠ n) :
    (s.ports.rd m).role ≠ .supplies := fun hr =>
  h (List.any_eq_true.mpr ⟨m, List.mem_finRange m, by simp [hm, hr]⟩)

theorem boundRole_ne_facilities {role : Role} (h : boundRole body = some role) : role ≠ .facilities := by
  rintro rfl
  unfold boundRole at h
  split at h
  · split at h
    · simp at h
    · cases h
  · split at h <;> cases h
  · split at h <;> cases h
  · cases h

theorem workBindPort_worked : Worked s.KeepsCalm s (workBindPort body s) := by
  unfold workBindPort
  split
  · next n role _ hrole =>
    have hf := boundRole_ne_facilities hrole
    split
    · exact .refused _
    · next hn =>
      split
      · next v =>
        split
        · next hd =>
          refine .accepted ⟨State.bindPort_keeps hn hf ?_ (fun h => nomatch h), rfl, rfl, fun _ _ => id⟩
          rintro _ ⟨⟩
          exact hd
        · exact .refused _
      · split
        · exact .refused _
        · next he =>
          refine .accepted ⟨State.bindPort_keeps hn hf (fun _ h => nomatch h) ?_, rfl, rfl, fun _ _ => id⟩
          exact fun _ m hm => State.suppliesElsewhere_eq_false he hm
      · next h1 h2 =>
        refine .accepted ⟨State.bindPort_keeps hn hf (fun v h => ?_) (fun h => ?_), rfl, rfl, fun _ _ => id⟩
        · exact absurd h (h1 v)
        · exact absurd h h2
  · exact .refused _

theorem State.resetPort_keeps (n : PortNo) : s.KeepsCalm (s.resetPort n) := by
  have h1 : s.Keeps (s.setPort n (s.ports.rd n).reset) := State.setPort_keeps rfl
  unfold State.resetPort
  dsimp only
  split
  · refine ⟨h1.trans (State.Keeps.ofPrinters fun p => ?_), rfl, rfl, fun _ _ => id⟩
    rw [Table.rd_map, State.setPort_printers]
    cases s.printers.rd p with
    | enrolling sh who => exact .unenrolled rfl rfl
    | _ => exact .refl _
  · exact ⟨h1, rfl, rfl, fun _ _ => id⟩

theorem workResetPort_worked : Worked s.KeepsCalm s (workResetPort body s) := by
  unfold workResetPort
  split
  · exact .refused _
  · split
    · exact .refused _
    · exact .accepted (State.resetPort_keeps _)

theorem workQueryPort_worked : Worked s.KeepsCalm s (workQueryPort body s) := by
  unfold workQueryPort
  split
  · exact .refused _
  · split
    · exact .refused _
    · exact .same _

theorem workReadAttention_worked : Worked s.KeepsCalm s (workReadAttention port body s) := by
  unfold workReadAttention
  split
  · exact .refused _
  · exact .same _

theorem workClearAttention_worked : Worked s.KeepsCalm s (workClearAttention port body s) := by
  unfold workClearAttention
  split
  · exact .refused _
  · split
    · exact .refused _
    · exact .accepted ⟨State.setPort_keeps rfl, rfl, rfl, fun _ _ => id⟩

theorem workSetMask_worked : Worked s.KeepsCalm s (workSetMask port body s) := by
  unfold workSetMask
  split
  · exact .refused _
  · split
    · exact .refused _
    · exact .accepted ⟨State.setPort_keeps rfl, rfl, rfl, fun _ _ => id⟩

theorem u8_lt (b : List Byte) (i : Nat) : u8 b i < 256 := (b.getD i 0).isLt

theorem u16_lt (b : List Byte) (i : Nat) : u16 b i < 65536 := by
  have h1 := u8_lt b i
  have h2 := u8_lt b (i + 1)
  unfold u16
  omega

theorem choiceAt_value {α : Type} {b : List Byte} {i : Nat} {words : List Nat} {x a : α}
    (h : choiceAt b i words x = some (.value a)) : a = x := by
  unfold choiceAt at h
  dsimp only at h
  split at h
  · cases h
    rfl
  · split at h
    · split at h <;> cases h
    · cases h

theorem amendedOf_eq_some_some {α β : Type} {c : Choice α} {read : Choice α → Option β} {b : β}
    (h : amendedOf c read = some (some b)) : read c = some b := by
  unfold amendedOf at h
  split at h
  · cases h
  · simpa using h

theorem clockAt_inRange {day second : Option Nat} (h : clockAt body = some (day, second)) :
    (∀ d, day = some d → d ≤ 65535) ∧ ∀ x, second = some x → x ≤ 86399 := by
  unfold clockAt at h
  split at h
  · cases h
  · simp only [Option.bind_eq_bind, Option.bind_eq_some_iff, Option.some.injEq, Prod.mk.injEq] at h
    obtain ⟨c, hc, d, hd, c', hc', x, hx, rfl, rfl⟩ := h
    constructor
    · rintro d rfl
      have hv := amendedOf_eq_some_some hd
      cases c <;> simp only [valueOf, Option.some.injEq, reduceCtorEq] at hv
      have := u16_lt body 1
      have := choiceAt_value hc
      omega
    · rintro x rfl
      have hv := amendedOf_eq_some_some hx
      cases c' <;> simp only [valueOf, Option.join_some, Option.join_none, reduceCtorEq] at hv
      rw [choiceAt_value hc', secondOfDay] at hv
      split at hv
      · cases hv
        assumption
      · cases hv

theorem workSetClock_worked : Worked s.KeepsCalm s (workSetClock body s) := by
  unfold workSetClock
  split
  · exact .refused _
  · next day second hc =>
    obtain ⟨hd, hs⟩ := clockAt_inRange hc
    refine .accepted ⟨State.Keeps.ofClock fun ⟨h1, h2⟩ => ⟨?_, ?_⟩, rfl, rfl, fun _ _ => id⟩
    · cases day with
      | none => exact h1
      | some d => exact hd d rfl
    · cases second with
      | none => exact h2
      | some x => exact hs x rfl

end Sys2Proof.Machine
end


section
/-! SUPPORT. Frames: what is sent is received, and a request frame's code names its request. -/

namespace Sys2Proof.Machine

theorem Request.ofCode_code (r : Request) : Request.ofCode r.code = some r := by cases r <;> rfl

theorem Request.code_of_ofCode {code : Byte} {r : Request} (h : Request.ofCode code = some r) : r.code = code := by
  unfold Request.ofCode at h
  apply BitVec.eq_of_toNat_eq
  split at h
  case h_39 => cases h
  all_goals
    cases h
    symm
    assumption

theorem dropWhile_noise {noise rest : List Byte} (h : ∀ b ∈ noise, b ≠ 0xA5#8) :
    (noise ++ syncByte :: rest).dropWhile (· != syncByte) = syncByte :: rest := by
  rw [List.dropWhile_append_of_pos (by simpa [syncByte] using h)]
  simp

theorem byteOf_toNat {n : Nat} (h : n < 256) : (byteOf n).toNat = n := by
  simp only [byteOf, BitVec.toNat_ofNat]
  omega

theorem checkBytes_length (bs : List Byte) : (checkBytes bs).length = 2 := rfl

/-- A tower frame's bytes are received as that frame exactly when its body is one the link carries (R173, R196). -/
theorem TowerFrame.receive_bytes {f : TowerFrame} {noise : List Byte} (hb : f.body.length < 256)
    (hn : ∀ b ∈ noise, b ≠ 0xA5#8) :
    TowerFrame.receive (noise ++ f.bytes) = if f.body.length ≤ 120 then some f else none := by
  have hs : noise ++ f.bytes = noise ++ syncByte :: (f.covered ++ checkBytes f.covered) := rfl
  have hcheck : (checkBytes f.covered).take 2 = checkBytes f.covered := rfl
  have hcov : f.covered = f.kind :: f.code :: f.tag :: f.outcome :: f.reason :: byteOf f.body.length :: f.body := rfl
  unfold TowerFrame.receive
  rw [hs, dropWhile_noise hn]
  generalize hk : checkBytes f.covered = check at hcheck
  rw [hcov]
  simp only [List.cons_append, byteOf_toNat hb, List.take_left, List.drop_left, towerBodyMax, and_true, hcheck]
  rw [← hk]
  simp only [and_true]

theorem TowerFrame.receive_request {code tag outcome reason : Byte} {body : List Byte} (hb : body.length ≤ 120) :
    TowerFrame.receive (TowerFrame.bytes ⟨1, code, tag, outcome, reason, body⟩)
      = some ⟨1, code, tag, outcome, reason, body⟩ := by
  have := TowerFrame.receive_bytes (f := ⟨1, code, tag, outcome, reason, body⟩) (noise := [])
    (show body.length < 256 by omega) (by simp)
  rwa [List.nil_append, if_pos hb] at this

/-- Riser bytes whose body is one the link carries are heard exactly when their check matches (R29, R196). -/
theorem RiserFrame.receive_covered {pos cls kind x y : Byte} {body noise : List Byte} (hb : body.length < 256)
    (hn : ∀ b ∈ noise, b ≠ 0xA5#8) :
    RiserFrame.receive (noise ++ syncByte :: (riserCovered pos cls kind body ++ [x, y]))
      = if body.length ≤ 48 ∧ [x, y] = checkBytes (riserCovered pos cls kind body)
        then some ⟨positionOfByte pos, cls, kind, body⟩ else none := by
  unfold RiserFrame.receive
  rw [dropWhile_noise hn]
  simp only [riserCovered, List.cons_append, List.nil_append, byteOf_toNat hb, List.take_left', List.drop_left',
    riserBodyMax, and_true]
  rfl

/-- A riser frame's bytes are heard as that frame exactly when its body is one the channel carries. -/
theorem RiserFrame.receive_bytes {f : RiserFrame} {noise : List Byte} (hb : f.body.length < 256)
    (hn : ∀ b ∈ noise, b ≠ 0xA5#8) :
    RiserFrame.receive (noise ++ f.bytes) = if f.body.length ≤ 48 then some f else none := by
  have hpos : positionOfByte (byteOf f.position.val) = f.position := by
    have := f.position.isLt
    apply Fin.ext
    simp only [positionOfByte, byteOf_toNat (show f.position.val < 256 by omega)]
    omega
  exact (RiserFrame.receive_covered (pos := byteOf f.position.val) (cls := f.cls) (kind := f.kind) hb hn).trans
    (by rw [hpos]; simp [checkBytes])

/-- Settles O16, by `TowerFrame.receive_bytes`. -/
theorem towerFramesAreReceivedAsSent : Obligations.TowerFramesAreReceivedAsSent := by
  unfold Obligations.TowerFramesAreReceivedAsSent
  refine ⟨fun f noise hb hn => ?_, fun f hb hb' => ?_, Request.ofCode_code, fun r port tag outcome reason body hb => ?_⟩
  · rw [TowerFrame.receive_bytes (by omega) hn, if_pos hb]
  · have := TowerFrame.receive_bytes (f := f) (noise := []) hb' (by simp)
    rwa [List.nil_append, if_neg (by omega)] at this
  · unfold Instr.ofTowerBytes
    rw [TowerFrame.receive_request hb]
    dsimp only
    rw [if_pos (show (1 : Byte) = kindRequest from rfl), Request.ofCode_code]

/-- Settles O17, by `RiserFrame.receive_bytes` and `RiserFrame.receive_covered`. -/
theorem riserFramesAreHeardAsSent : Obligations.RiserFramesAreHeardAsSent := by
  unfold Obligations.RiserFramesAreHeardAsSent
  refine ⟨fun f noise hb hn => ?_, fun f hb hb' => ?_, fun pos cls kind body x y hb hxy => ?_,
    fun pos cls kind body hb => ?_⟩
  · rw [RiserFrame.receive_bytes (by omega) hn, if_pos hb]
  · have := RiserFrame.receive_bytes (f := f) (noise := []) hb' (by simp)
    rwa [List.nil_append, if_neg (by omega)] at this
  · exact (RiserFrame.receive_covered (noise := []) (by omega) (by simp)).trans (if_neg fun h => hxy h.2)
  · exact (RiserFrame.receive_covered (noise := []) (by omega) (by simp)).trans (if_pos ⟨hb, rfl⟩)

end Sys2Proof.Machine
end


section
/-! SUPPORT. Every command in two shapes: a request taken by its block's work, and the rest; what each keeps. -/

namespace Sys2Proof.Machine

variable {s t u : State} {p : PrinterNo} {body : List Byte} {port : PortNo} {tag : Byte} {r : Request} {c : ChannelNo}
  {k : PositionNo} {P : State → Prop}

/-! ### Requests by their work -/

/-- The work of the block that owns a request. -/
def blockWork (r : Request) (port : PortNo) (tag : Byte) (body : List Byte) : State → State × Option Reply :=
  match r with
  | .enrolPrinter => workEnrolPrinter port tag body
  | .disablePrinter => fun s => onPrinter body s workDisablePrinter
  | .enablePrinter => fun s => onPrinter body s workEnablePrinter
  | .removePrinter => fun s => onPrinter body s workRemovePrinter
  | .setSharing => workSetSharing body
  | .queryPrinter => fun s => onPrinter body s (workQueryPrinter port)
  | .resetChannel => workResetChannel body
  | .defineTenant => workDefineTenant body
  | .amendTenant => workAmendTenant body
  | .removeTenant => fun s => onTenantNumber body s workRemoveTenant
  | .renewPool => fun s => onTenantNumber body s workRenewPool
  | .queryTenant => fun s => onTenantNumber body s (workQueryTenant port)
  | .createAccount => fun s => onTenant s port (workCreateAccount body)
  | .amendAccount => fun s => onTenant s port (workAmendAccount body)
  | .removeAccount => fun s => onTenant s port (workRemoveAccount body)
  | .queryAccount => fun s => onTenant s port (workQueryAccount body)
  | .renewPeriod => fun s => onTenant s port (workRenewPeriod body)
  | .submitJob => fun s => onTenant s port (workSubmitJob body)
  | .withdraw => fun s => onTenant s port (workWithdraw body)
  | .queryJob => workQueryJob port body
  | .takeCompletions => fun s => onTenant s port (workTakeCompletions body)
  | .querySlot => workQuerySlot body
  | .takeOrders => workTakeOrders body
  | .confirmOrder => workConfirmOrder body
  | .cancelOrder => workCancelOrder body
  | .setLeadTime => workSetLeadTime body
  | .queryOrder => workQueryOrder body
  | .acknowledgeCallout => fun s => onCallout body s workAcknowledgeCallout
  | .closeCallout => fun s => onCallout body s workCloseCallout
  | .queryCallouts => workQueryCallouts body
  | .bindPort => workBindPort body
  | .resetPort => workResetPort body
  | .queryPort => workQueryPort body
  | .readAttention => workReadAttention port body
  | .clearAttention => workClearAttention port body
  | .setMask => workSetMask port body
  | .setClock => workSetClock body
  | .fleetReset => refuse .malformed

/-- The requests that may set marks, and end with the arbiters' choice (R25; log 7). -/
def mayMark : Request → Bool
  | .enrolPrinter | .disablePrinter | .setSharing | .resetChannel | .removeTenant => true
  | .amendAccount | .removeAccount | .withdraw | .takeCompletions => true
  | _ => false

/-- The end of a request's step: the arbiters choose, where the request may have set marks. -/
def State.settled (s : State) (r : Request) : State := if mayMark r then s.serveChannels else s

/-- A request that is not one of port 0's own resets is its block's work, taken as R174 gives. -/
theorem exec_command (h : ¬ selfReset port r body) : exec (r.command port tag body) s
    = .next ((s.takeRequest r port tag body (blockWork r port tag body)).settled r) := by
  cases r with
  | resetPort => exact if_neg fun hp => h ⟨hp.1, .inl ⟨rfl, hp.2⟩⟩
  | fleetReset => exact if_neg fun hp => h ⟨hp.1, .inr ⟨rfl, hp.2⟩⟩
  | _ => rfl

theorem exec_fleetReset : exec (.fleetReset 0 tag []) s = .next
    ((s.restart.serveChannels.begun 0 .fleetReset tag).acceptedWith 0 .fleetReset tag (clockBytes ⟨0, 0⟩)) := rfl

theorem exec_resetPort_own : exec (.resetPort 0 tag [0]) s = .next
    (((s.resetPort 0).begun 0 .resetPort tag).acceptedWith 0 .resetPort tag []) := rfl

theorem execRequest_eq : execRequest r port tag body s = exec (r.command port tag body) s := by cases r <;> rfl

theorem State.Quiet.settled_eq (h : s.Quiet) (r : Request) : s.settled r = s := by
  unfold State.settled
  split
  · exact h.serveChannels_eq
  · rfl

/-- What a request keeps: the invariants, and the arbiters' rest where the step does not end with their choice. -/
def State.Kept (r : Request) (s t : State) : Prop := s.Keeps t ∧ (mayMark r = false → s.Calm t)

theorem Worked.serving {w : State × Option Reply} (h : Worked s.Keeps s w) (hr : mayMark r = true) :
    Worked (State.Kept r s) s w :=
  h.mono fun _ h => ⟨h, fun hf => absurd (hr.symm.trans hf) (by simp)⟩

theorem Worked.calm {w : State × Option Reply} (h : Worked s.KeepsCalm s w) : Worked (State.Kept r s) s w :=
  h.mono fun _ h => ⟨h.1, fun _ => h.2⟩

/-- A request's work refuses and changes nothing, or keeps what its request keeps. -/
theorem blockWork_worked (r : Request) : Worked (s.Kept r) s (blockWork r port tag body s) := by
  cases r with
  | enrolPrinter => exact workEnrolPrinter_worked.serving rfl
  | disablePrinter => exact (onPrinter_worked workDisablePrinter_worked).serving rfl
  | enablePrinter => exact (onPrinter_worked workEnablePrinter_worked).calm
  | removePrinter => exact (onPrinter_worked workRemovePrinter_worked).calm
  | setSharing => exact workSetSharing_worked.serving rfl
  | queryPrinter => exact (onPrinter_worked workQueryPrinter_worked).calm
  | resetChannel => exact workResetChannel_worked.serving rfl
  | defineTenant => exact workDefineTenant_worked.calm
  | amendTenant => exact workAmendTenant_worked.calm
  | removeTenant => exact (onTenantNumber_worked workRemoveTenant_worked).serving rfl
  | renewPool => exact (onTenantNumber_worked workRenewPool_worked).calm
  | queryTenant => exact (onTenantNumber_worked workQueryTenant_worked).calm
  | createAccount => exact (onTenant_worked workCreateAccount_worked).calm
  | amendAccount => exact (onTenant_worked workAmendAccount_worked).serving rfl
  | removeAccount => exact (onTenant_worked workRemoveAccount_worked).serving rfl
  | queryAccount => exact (onTenant_worked workQueryAccount_worked).calm
  | renewPeriod => exact (onTenant_worked workRenewPeriod_worked).calm
  | submitJob => exact (onTenant_worked workSubmitJob_worked).calm
  | withdraw => exact (onTenant_worked workWithdraw_worked).serving rfl
  | queryJob => exact workQueryJob_worked.calm
  | takeCompletions => exact (onTenant_worked workTakeCompletions_worked).serving rfl
  | querySlot => exact workQuerySlot_worked.calm
  | takeOrders => exact workTakeOrders_worked.calm
  | confirmOrder => exact workConfirmOrder_worked.calm
  | cancelOrder => exact workCancelOrder_worked.calm
  | setLeadTime => exact workSetLeadTime_worked.calm
  | queryOrder => exact workQueryOrder_worked.calm
  | acknowledgeCallout => exact (onCallout_worked workAcknowledgeCallout_worked).calm
  | closeCallout => exact (onCallout_worked workCloseCallout_worked).calm
  | queryCallouts => exact workQueryCallouts_worked.calm
  | bindPort => exact workBindPort_worked.calm
  | resetPort => exact workResetPort_worked.calm
  | queryPort => exact workQueryPort_worked.calm
  | readAttention => exact workReadAttention_worked.calm
  | clearAttention => exact workClearAttention_worked.calm
  | setMask => exact workSetMask_worked.calm
  | setClock => exact workSetClock_worked.calm
  | fleetReset => exact .refused _

/-- What taking a request comes to, for a relation that the writing of a port's entry and the request's work keep. -/
theorem takeRequest_rel {work : State → State × Option Reply} {R : State → State → Prop} (refl : ∀ s, R s s) (trans : ∀ s t u, R s t → R t u → R s u)
    (ports : ∀ s (n : PortNo) (x : Port), x.role = (s.ports.rd n).role → R s (s.setPort n x))
    (hw : ∀ u, Worked (R u) u (work u)) : R s (s.takeRequest r port tag body work) := by
  have begun : R s (s.begun port r tag) := ports s port _ rfl
  obtain ⟨-, h⟩ | ⟨-, h⟩ | ⟨-, -, h⟩ | ⟨-, h⟩ := takeRequest_cases (s := s) (port := port) (r := r) (tag := tag)
    (body := body) (work := work)
  · rw [h]
    exact refl s
  · rw [h]
    unfold State.overlapped
    split
    · exact refl s
    · exact ports s port _ rfl
  · rw [h]
    exact trans _ _ _ begun (ports _ port _ rfl)
  · rw [h]
    refine trans _ _ _ begun ?_
    have hw := hw (s.begun port r tag)
    generalize work (s.begun port r tag) = w at hw
    cases hw with
    | refused _ => exact ports _ port _ rfl
    | accepted h => exact trans _ _ _ h (ports _ port _ rfl)
    | waiting h _ => exact h

theorem takeRequest_keeps : s.Keeps (s.takeRequest r port tag body (blockWork r port tag body)) :=
  takeRequest_rel State.Keeps.refl (fun _ _ _ => State.Keeps.trans) (fun _ _ _ => State.setPort_keeps)
    fun _ => (blockWork_worked r).mono fun _ => And.left

theorem takeRequest_calm (hr : mayMark r = false) :
    s.Calm (s.takeRequest r port tag body (blockWork r port tag body)) :=
  takeRequest_rel State.Calm.refl (fun _ _ _ => State.Calm.trans) (fun _ _ _ _ => ⟨rfl, rfl, fun _ _ => id⟩)
    fun _ => (blockWork_worked r).mono fun _ h => h.2 hr

/-! ### What every command keeps -/

/-- A step taken: the invariants kept, and nothing left for the arbiters to choose if nothing was. -/
def State.Stepped (s t : State) : Prop := s.Keeps t ∧ (s.Quiet → t.Quiet)

theorem State.Stepped.refl (s : State) : s.Stepped s := ⟨.refl s, id⟩

theorem State.Stepped.serve (h : s.Keeps t) : s.Stepped t.serveChannels :=
  ⟨h.trans (serveChannels_keeps t), fun _ => serveChannels_quiet t⟩

theorem State.Stepped.calm (h : s.Keeps t) (hc : s.Calm t) : s.Stepped t := ⟨h, fun hq => hq.calm hc⟩

theorem State.Stepped.trans (h : s.Stepped t) (h' : t.Stepped u) : s.Stepped u :=
  ⟨h.1.trans h'.1, fun hq => h'.2 (h.2 hq)⟩

theorem State.setPort_stepped {n : PortNo} {x : Port} (h : x.role = (s.ports.rd n).role) :
    s.Stepped (s.setPort n x) :=
  .calm (State.setPort_keeps h) ⟨rfl, rfl, fun _ _ => id⟩

theorem State.begun_stepped : s.Stepped (s.begun port r tag) := State.setPort_stepped rfl

theorem State.acceptedWith_stepped {b : List Byte} : s.Stepped (s.acceptedWith port r tag b) :=
  State.setPort_stepped rfl

theorem takeRequest_stepped :
    s.Stepped ((s.takeRequest r port tag body (blockWork r port tag body)).settled r) := by
  unfold State.settled
  split
  · exact .serve takeRequest_keeps
  · next hr => exact .calm takeRequest_keeps (takeRequest_calm (Bool.eq_false_of_not_eq_true hr))

/-- Every request, port 0's own resets among them. -/
theorem command_stepped (r : Request) (port : PortNo) (tag : Byte) (body : List Byte) (s : State) :
    ∃ t, exec (r.command port tag body) s = .next t ∧ s.Stepped t := by
  by_cases h : selfReset port r body
  · obtain ⟨rfl, ⟨rfl, rfl⟩ | ⟨rfl, rfl⟩⟩ := h
    · exact ⟨_, exec_resetPort_own, 
        ((State.Stepped.calm (State.resetPort_keeps 0).1 (State.resetPort_keeps 0).2).trans State.begun_stepped).trans
          State.acceptedWith_stepped⟩
    · exact ⟨_, exec_fleetReset,
        ((State.Stepped.serve (State.restart_keeps s)).trans State.begun_stepped).trans State.acceptedWith_stepped⟩
  · exact ⟨_, exec_command h, takeRequest_stepped⟩

theorem State.reply_stepped (code : Byte) (o : Option Reply) : s.Stepped (s.reply port code tag o) := by
  cases o with
  | none => exact .refl s
  | some r => exact State.setPort_stepped rfl

theorem State.overlapped_stepped (code : Byte) : s.Stepped (s.overlapped port code tag) := by
  unfold State.overlapped
  split
  · exact .refl s
  · exact State.setPort_stepped rfl

theorem State.takeUnknown_stepped (code : Byte) : s.Stepped (s.takeUnknown port code tag body) := by
  unfold State.takeUnknown
  split
  · exact .refl s
  · split
    · exact State.overlapped_stepped _
    · exact .trans (t := s.beginRequest port code tag) (State.setPort_stepped rfl) (State.reply_stepped _ _)

theorem requestFrame_stepped (port : PortNo) (code tag : Byte) (body : List Byte) (s : State) :
    ∃ t, s.requestFrame port code tag body = .next t ∧ s.Stepped t := by
  unfold State.requestFrame
  split
  · rw [execRequest_eq]
    exact command_stepped _ _ _ _ _
  · exact ⟨_, rfl, State.takeUnknown_stepped _⟩

/-! ### Frames of the riser channels -/

theorem State.clearClass_positions (p : PrinterNo) (cls : CondClass) : (s.clearClass p cls).positions = s.positions := by
  obtain ⟨_, _, _, _, h⟩ := s.clearClass_frame p cls
  rw [h]

theorem State.clearNoAnswer_positions (p : PrinterNo) : (s.clearNoAnswer p).positions = s.positions := by
  unfold State.clearNoAnswer
  split
  · split
    · exact State.clearClass_positions _ _
    · rfl
  · rfl

/-- A frame heard starts the silence timer of an enrolled printer, and writes no mark (R29). -/
theorem State.heard_positions (p : PrinterNo) (keep : Bool) : (s.heard p keep).positions =
    if (s.enrolled p).isSome then s.positions.wr p { s.positions.rd p with silence := some Config.silenceLimit }
    else s.positions := by
  unfold State.heard
  split
  · next h => simp [h]
  · next h =>
    simp only [h, Option.isSome_some, if_true]
    split
    · rfl
    · rw [State.clearNoAnswer_positions]
      rfl

theorem State.heard_stepped (p : PrinterNo) (keep : Bool) : s.Stepped (s.heard p keep) := by
  refine .calm (State.heard_keeps p keep) ⟨State.heard_channels keep, State.heard_serviceLines keep, fun q kind h => ?_⟩
  rw [State.heard_positions] at h
  split at h
  · rw [Table.rd_wr] at h
    split at h
    · next e =>
      subst e
      cases kind <;> exact h
    · exact h
  · exact h

theorem State.answerFrame_stepped (c : ChannelNo) (k : PositionNo) (kind : Byte) (body : List Byte) :
    s.Stepped (s.answerFrame c k kind body) := by
  refine ⟨State.answerFrame_keeps c k kind body, ?_⟩
  unfold State.answerFrame
  dsimp only
  split
  · exact id
  · split
    · split
      · exact fun _ => serveChannels_quiet _
      · exact (State.heard_stepped _ _).2
    · exact (State.heard_stepped _ _).2

theorem State.reportFrame_stepped (c : ChannelNo) (k : PositionNo) (kind : Byte) (body : List Byte) (line : Bool) :
    s.Stepped (s.reportFrame c k kind body line) := by
  refine ⟨State.reportFrame_keeps c k kind body line, ?_⟩
  unfold State.reportFrame
  dsimp only
  split
  · exact id
  · split
    · split
      · split
        · exact fun _ => serveChannels_quiet _
        · exact fun _ => serveChannels_quiet _
      · exact (State.heard_stepped _ _).2
    · exact (State.heard_stepped _ _).2

theorem State.adapterFrame_stepped (c : ChannelNo) (k : PositionNo) (cls kind : Byte) (body : List Byte) (line : Bool) :
    s.Stepped (s.adapterFrame c k cls kind body line) := by
  unfold State.adapterFrame
  split
  · exact State.answerFrame_stepped _ _ _ _
  · split
    · exact State.reportFrame_stepped _ _ _ _ _
    · split
      · exact .refl s
      · exact State.heard_stepped _ _

/-! ### The clock -/

theorem JobRecord.tick_soft (r : JobRecord) : r.Soft r.tick := by
  obtain ⟨gen, o⟩ := r
  cases o with
  | none => exact ⟨rfl, .none⟩
  | some j =>
    refine ⟨rfl, .some ⟨rfl, rfl, ?_, ?_⟩⟩ <;> dsimp only <;> cases j.state <;> rfl

theorem Printer.tick_soft (x : Printer) : x.Soft x.tick := by
  cases x with
  | enrolled e => exact .enrolled rfl rfl rfl rfl id
  | _ => exact .refl _

theorem State.secondMark_keeps (s : State) : s.Keeps s.secondMark := by
  unfold State.secondMark
  have h1 : s.Keeps { s with clock := s.clock.succ } := .ofClock Clock.succ_inRange
  refine h1.trans ((State.Keeps.ofPrinters (xs := s.printers.map Printer.tick) fun p => ?_).trans
    ((State.Keeps.ofJobs (js := s.jobs.map JobRecord.tick) fun n => ?_).trans
    ((State.Keeps.ofSessions (ss := s.sessions.map fun x => x.map Session.tick) fun p => ?_).trans
    (State.Keeps.floor _ _ _ _ _ _ _ _ _ _))))
  · rw [Table.rd_map]
    exact Printer.tick_soft _
  · rw [Table.rd_map]
    exact JobRecord.tick_soft _
  · rw [Table.rd_map]
    dsimp only
    cases s.sessions.rd p with
    | none => exact .none
    | some x => exact .some ⟨rfl, List.Sublist.refl _⟩

theorem State.secondMark_stepped (s : State) : s.Stepped s.secondMark :=
  .calm (State.secondMark_keeps s) ⟨rfl, rfl, fun p kind h => by
    rw [State.secondMark, Table.rd_map] at h
    cases kind <;> exact h⟩

theorem State.takeMinuteMark_stepped (s : State) : s.Stepped s.takeMinuteMark := by
  unfold State.takeMinuteMark State.countDown
  refine .calm ?_ ⟨rfl, rfl, fun _ _ => id⟩
  refine State.Keeps.trans (t := s.countDown) ?_ (State.Keeps.floor _ _ _ _ _ _ _ _ _ _)
  refine State.Keeps.ofJobs fun n => ?_
  rw [Table.rd_tab]
  unfold State.countDownJob
  split
  · next j hj =>
    split
    · refine ⟨rfl, ?_⟩
      rw [hj]
      exact .some ⟨rfl, rfl, rfl, rfl⟩
    · exact .refl _
  · exact .refl _

theorem State.takeDayClose_stepped (s : State) : s.Stepped s.takeDayClose := by
  unfold State.takeDayClose
  refine .calm (State.closeDay_keeps.trans (State.Keeps.floor _ _ _ _ _ _ _ _ _ _)) ?_
  obtain ⟨_, _, _, _, h⟩ := s.closeDay_frame
  rw [h]
  exact ⟨rfl, rfl, fun _ _ => id⟩

theorem Job.held_of_expiryDue {j : Job} (h : j.expiryDue = true) : j.state = .held := by
  simp only [Job.expiryDue, Bool.and_eq_true, decide_eq_true_eq] at h
  exact h.1

theorem State.expireNext_keeps (s : State) : s.Keeps s.expireNext := by
  unfold State.expireNext
  split
  · next n hn =>
    split
    · next j hj =>
      refine State.expire_keeps hj ?_
      have hdue := List.find?_some hn
      simp only [State.dueToExpire, hj, Option.any_some, Bool.and_eq_true] at hdue
      exact Job.held_of_expiryDue hdue.1
    · exact .refl s
  · exact .refl s

end Sys2Proof.Machine
end


section
/-! SUPPORT. The invariants that every step keeps, and requests that change no record. -/

namespace Sys2Proof.Machine

variable {s t : State} {port : PortNo} {tag : Byte} {body : List Byte} {r : Request} {code : Byte}

theorem Port.begin_role {x : Port} : x.begin.role = x.role := by
  unfold Port.begin
  split
  · split
    · rfl
    · rfl
    · split <;> rfl
  · rfl

theorem Port.sent_role {x : Port} : x.sent.role = x.role := by
  unfold Port.sent
  split <;> rfl

theorem exec_stepped (c : Instr) (s : State) : ∃ t, exec c s = .next t ∧ s.Stepped t := by
  cases c with
  | powerOn => exact ⟨_, rfl, .serve (State.restart_keeps s)⟩
  | secondMark => exact ⟨_, rfl, State.secondMark_stepped s⟩
  | dayClose =>
    unfold exec execDayClose
    dsimp only
    split
    · exact ⟨_, rfl, State.takeDayClose_stepped s⟩
    · split
      · exact ⟨_, rfl, (State.secondMark_stepped s).trans (State.takeDayClose_stepped _)⟩
      · exact ⟨_, rfl, .refl s⟩
  | minuteMark =>
    unfold exec execMinuteMark
    dsimp only
    split
    · exact ⟨_, rfl, State.takeMinuteMark_stepped s⟩
    · split
      · exact ⟨_, rfl, (State.secondMark_stepped s).trans (State.takeMinuteMark_stepped _)⟩
      · exact ⟨_, rfl, .refl s⟩
  | jobExpire => exact ⟨_, rfl, .serve (State.expireNext_keeps s)⟩
  | windowTimerExpiry p => exact ⟨_, rfl, .serve (State.windowExpired_keeps p)⟩
  | startTimerExpiry p => exact ⟨_, rfl, .serve (State.startExpired_keeps p)⟩
  | suspendTimerExpiry p => exact ⟨_, rfl, .serve (State.suspendExpired_keeps p)⟩
  | graceTimerExpiry p cls => exact ⟨_, rfl, .serve (State.graceExpired_keeps p cls)⟩
  | silenceTimerExpiry c k => exact ⟨_, rfl, .serve (State.silenceExpired_keeps (printerAt c k))⟩
  | requestAnswerTimeout c => exact ⟨_, rfl, .serve (State.requestTimeout_keeps c)⟩
  | reportCallTimeout c => exact ⟨_, rfl, .serve (State.callTimeout_keeps c)⟩
  | serviceRequestActive c k => exact ⟨_, rfl, .serve (State.setLine_keeps _ _)⟩
  | describeAnswer c k body => exact ⟨_, rfl, State.answerFrame_stepped c k _ body⟩
  | grantAnswer c k body => exact ⟨_, rfl, State.answerFrame_stepped c k _ body⟩
  | acknowledgementAnswer c k kind body => exact ⟨_, rfl, State.answerFrame_stepped c k kind body⟩
  | probeAnswer c k body => exact ⟨_, rfl, State.answerFrame_stepped c k _ body⟩
  | strayFrame c k cls kind body => exact ⟨_, rfl, State.adapterFrame_stepped c k cls kind body _⟩
  | riserFrameDiscarded c bytes =>
    unfold exec execRiserFrameDiscarded
    dsimp only
    split
    · exact ⟨_, rfl, .refl s⟩
    · exact ⟨_, rfl, State.adapterFrame_stepped _ _ _ _ _ _⟩
  | nothing c k line => exact ⟨_, rfl, State.reportFrame_stepped c k _ _ line⟩
  | unknownKind c k kind body line => exact ⟨_, rfl, State.reportFrame_stepped c k kind body line⟩
  | present c k body line => exact ⟨_, rfl, State.reportFrame_stepped c k _ body line⟩
  | select c k body line => exact ⟨_, rfl, State.reportFrame_stepped c k _ body line⟩
  | logout c k body line => exact ⟨_, rfl, State.reportFrame_stepped c k _ body line⟩
  | jobStart c k body line => exact ⟨_, rfl, State.reportFrame_stepped c k _ body line⟩
  | sides c k body line => exact ⟨_, rfl, State.reportFrame_stepped c k _ body line⟩
  | jobResumed c k body line => exact ⟨_, rfl, State.reportFrame_stepped c k _ body line⟩
  | jobEnd c k body line => exact ⟨_, rfl, State.reportFrame_stepped c k _ body line⟩
  | condition c k body line => exact ⟨_, rfl, State.reportFrame_stepped c k _ body line⟩
  | cartridge c k body line => exact ⟨_, rfl, State.reportFrame_stepped c k _ body line⟩
  | towerFrameDiscarded port bytes =>
    unfold exec execTowerFrameDiscarded
    dsimp only
    split
    · split
      · exact requestFrame_stepped _ _ _ _ _
      · exact ⟨_, rfl, .refl s⟩
    · exact ⟨_, rfl, .refl s⟩
  | overlap port code tag body => exact requestFrame_stepped port code tag body s
  | unknownRequest port code tag body => exact requestFrame_stepped port code tag body s
  | transmitterBegin port => exact ⟨_, rfl, State.setPort_stepped Port.begin_role⟩
  | frameSentWhole port => exact ⟨_, rfl, State.setPort_stepped Port.sent_role⟩
  | enrolPrinter port tag body => exact command_stepped .enrolPrinter port tag body s
  | disablePrinter port tag body => exact command_stepped .disablePrinter port tag body s
  | enablePrinter port tag body => exact command_stepped .enablePrinter port tag body s
  | removePrinter port tag body => exact command_stepped .removePrinter port tag body s
  | setSharing port tag body => exact command_stepped .setSharing port tag body s
  | queryPrinter port tag body => exact command_stepped .queryPrinter port tag body s
  | resetChannel port tag body => exact command_stepped .resetChannel port tag body s
  | defineTenant port tag body => exact command_stepped .defineTenant port tag body s
  | amendTenant port tag body => exact command_stepped .amendTenant port tag body s
  | removeTenant port tag body => exact command_stepped .removeTenant port tag body s
  | renewPool port tag body => exact command_stepped .renewPool port tag body s
  | queryTenant port tag body => exact command_stepped .queryTenant port tag body s
  | createAccount port tag body => exact command_stepped .createAccount port tag body s
  | amendAccount port tag body => exact command_stepped .amendAccount port tag body s
  | removeAccount port tag body => exact command_stepped .removeAccount port tag body s
  | queryAccount port tag body => exact command_stepped .queryAccount port tag body s
  | renewPeriod port tag body => exact command_stepped .renewPeriod port tag body s
  | submitJob port tag body => exact command_stepped .submitJob port tag body s
  | withdraw port tag body => exact command_stepped .withdraw port tag body s
  | queryJob port tag body => exact command_stepped .queryJob port tag body s
  | takeCompletions port tag body => exact command_stepped .takeCompletions port tag body s
  | querySlot port tag body => exact command_stepped .querySlot port tag body s
  | takeOrders port tag body => exact command_stepped .takeOrders port tag body s
  | confirmOrder port tag body => exact command_stepped .confirmOrder port tag body s
  | cancelOrder port tag body => exact command_stepped .cancelOrder port tag body s
  | setLeadTime port tag body => exact command_stepped .setLeadTime port tag body s
  | queryOrder port tag body => exact command_stepped .queryOrder port tag body s
  | acknowledgeCallout port tag body => exact command_stepped .acknowledgeCallout port tag body s
  | closeCallout port tag body => exact command_stepped .closeCallout port tag body s
  | queryCallouts port tag body => exact command_stepped .queryCallouts port tag body s
  | bindPort port tag body => exact command_stepped .bindPort port tag body s
  | resetPort port tag body => exact command_stepped .resetPort port tag body s
  | queryPort port tag body => exact command_stepped .queryPort port tag body s
  | readAttention port tag body => exact command_stepped .readAttention port tag body s
  | clearAttention port tag body => exact command_stepped .clearAttention port tag body s
  | setMask port tag body => exact command_stepped .setMask port tag body s
  | setClock port tag body => exact command_stepped .setClock port tag body s
  | fleetReset port tag body => exact command_stepped .fleetReset port tag body s

/-- What one step keeps is what its command keeps: no invariant reads the queue. -/
theorem step_next (h : step s = .next t) : t = s ∨ ∃ rest, State.Stepped { s with pending := rest } t := by
  unfold step at h
  split at h
  · cases h
    exact .inl rfl
  · next c rest _ =>
    obtain ⟨u, hu, hs⟩ := exec_stepped c { s with pending := rest }
    cases hu.symm.trans h
    exact .inr ⟨rest, hs⟩

/-- Settles O2: every command's next state, by `exec_stepped`. -/
theorem everyCommandAnswersNext : Obligations.EveryCommandAnswersNext := fun c s => by
  obtain ⟨t, ht, hs⟩ := exec_stepped c s
  exact ⟨t, ht, hs.1.pending⟩

/-- Settles O5, by what every command keeps (`exec_stepped`): a line changes only together with a callout of its
class. -/
theorem calloutLinesFollowOpenCallouts : Obligations.CalloutLinesFollowOpenCallouts := fun s t h hs => by
  obtain rfl | ⟨rest, hk⟩ := step_next hs
  · exact h
  · exact hk.1.lines h

/-- Settles O6: a step that may leave something to choose ends with the arbiters' choice. -/
theorem arbitersLeaveNothingToChoose : Obligations.ArbitersLeaveNothingToChoose := fun s t h hs => by
  obtain rfl | ⟨rest, hk⟩ := step_next hs
  · exact h
  · exact hk.2 h

/-- Settles O7, by what every command keeps (`exec_stepped`). -/
theorem portRolesAndClockStayInRange : Obligations.PortRolesAndClockStayInRange := by
  refine ⟨fun s t h hs => ?_, fun s t h hs => ?_⟩
  · obtain rfl | ⟨rest, hk⟩ := step_next hs
    · exact h
    · exact hk.1.ports h
  · obtain rfl | ⟨rest, hk⟩ := step_next hs
    · exact h
    · exact hk.1.clock h

/-- Settles O8, by what every command keeps (`exec_stepped`): a slot is written only with values derived from its
others. -/
theorem slotsStayDerived : Obligations.SlotsStayDerived := fun s t h hs => by
  obtain rfl | ⟨rest, hk⟩ := step_next hs
  · exact h
  · exact hk.1.slots h

/-- Settles O9, by what every command keeps (`exec_stepped`). -/
theorem reordersStayKept : Obligations.ReordersStayKept := fun s t h h' hs => by
  obtain rfl | ⟨rest, hk⟩ := step_next hs
  · exact h'
  · exact hk.1.reorders h h'

/-- Settles O10, by what every command keeps (`exec_stepped`). -/
theorem sessionsStandOnlyAtServingPrinters : Obligations.SessionsStandOnlyAtServingPrinters := fun s t h hs => by
  obtain rfl | ⟨rest, hk⟩ := step_next hs
  · exact h
  · exact hk.1.served h

/-- Settles O11, by what every command keeps (`exec_stepped`): the parts of the books are kept together. -/
theorem booksStayKept : Obligations.BooksStayKept := fun s t h hs => by
  obtain rfl | ⟨rest, hk⟩ := step_next hs
  · exact h
  · exact hk.1.books h

/-- Settles O12, by what every command keeps (`exec_stepped`): jobs, accounts and pools move by the same amounts. -/
theorem reservationsStayAgreed : Obligations.ReservationsStayAgreed := fun s t h h' hs => by
  obtain rfl | ⟨rest, hk⟩ := step_next hs
  · exact h'
  · exact hk.1.reserved h h'

/-- Settles O1, by the definition of a step. -/
theorem stepRunsFrontCommand : Obligations.StepRunsFrontCommand := by
  refine ⟨fun s c rest h => ?_, fun s h => ?_⟩
  · simp [step, h]
  · simp [step, h]

/-! ### Requests that change no record -/

theorem State.quiet_setPort {n : PortNo} {x : Port} : (s.setPort n x).Quiet ↔ s.Quiet := .rfl

theorem State.replied_answer {status : Status} {b : List Byte} :
    ((s.replied port r tag status b).ports.rd port).answer = some ⟨r.code, tag, status, b⟩ := by
  simp [State.replied]

theorem State.acceptedWith_answer {b : List Byte} :
    ((s.acceptedWith port r tag b).ports.rd port).answer = some ⟨r.code, tag, .accepted, b⟩ := State.replied_answer

/-- A request on a port that has none outstanding: refused for its role, or worked. -/
theorem takeRequest_open {work : State → State × Option Reply} (ho : (s.ports.rd port).outstanding = none)
    (hb : body.length ≤ 120) : s.takeRequest r port tag body work =
      if permits r (s.ports.rd port).role = true then
        (work (s.begun port r tag)).1.reply port r.code tag (work (s.begun port r tag)).2
      else (s.begun port r tag).replied port r tag (.refused .notPermitted) [] := by
  obtain ⟨h, -⟩ | ⟨h, -⟩ | ⟨-, hp, h⟩ | ⟨⟨-, hp, -⟩, h⟩ := takeRequest_cases (s := s) (port := port) (r := r) (tag := tag)
    (body := body) (work := work)
  · exact absurd hb (Nat.not_le.mpr h)
  · exact absurd ho h
  · rw [h, hp]
    rfl
  · rw [h, hp]
    rfl

/-- Settles O14: R174 examines the role before the block that owns the request sees its body. -/
theorem roleIsCheckedBeforeTheBody : Obligations.RoleIsCheckedBeforeTheBody := by
  refine ⟨fun r port tag body s hq ho hb hp hr => ?_, fun r t => ?_⟩
  · rw [exec_command hr, takeRequest_open ho hb, if_neg (by simp [hp]), State.Quiet.settled_eq]
    exact hq
  · cases r <;> decide +revert

theorem State.settled_ports : (s.settled r).ports = s.ports := by
  unfold State.settled
  split
  · obtain ⟨_, _, _, h⟩ := (serveChannels_servedTo s).rest
    rw [h]
  · rfl

/-- A refusal in the answer slot of a port that had none is what the request came to. -/
theorem takeRequest_refusal {reason : Reason} {b : List Byte} (ho : (s.ports.rd port).outstanding = none)
    (ha : (s.ports.rd port).answer = none)
    (h : ((s.takeRequest r port tag body (blockWork r port tag body)).ports.rd port).answer
      = some ⟨r.code, tag, .refused reason, b⟩) :
    s.takeRequest r port tag body (blockWork r port tag body)
      = (s.begun port r tag).replied port r tag (.refused reason) [] := by
  by_cases hb : body.length ≤ 120
  · rw [takeRequest_open ho hb] at h ⊢
    split at h
    · next hp =>
      rw [if_pos hp]
      have hw := blockWork_worked (s := s.begun port r tag) (port := port) (tag := tag) (body := body) r
      generalize blockWork r port tag body (s.begun port r tag) = w at h hw
      cases hw with
      | refused r' =>
        rw [show ((refuse r' (s.begun port r tag)).1.reply port r.code tag (refuse r' (s.begun port r tag)).2)
          = (s.begun port r tag).replied port r tag (.refused r') [] from rfl, State.replied_answer] at h
        cases h
        rfl
      | @accepted t b' _ =>
        rw [show ((accept b' t).1.reply port r.code tag (accept b' t).2) = t.replied port r tag .accepted b' from rfl,
          State.replied_answer] at h
        cases h
      | @waiting t _ hports =>
        rw [show State.reply (t, (none : Option Reply)).1 port r.code tag (t, (none : Option Reply)).2 = t from rfl,
          hports, State.begun_ports_rd, if_pos rfl] at h
        cases ha.symm.trans h
    · next hp =>
      rw [if_neg hp]
      rw [State.replied_answer] at h
      cases h
      rfl
  · have htoo : s.takeRequest r port tag body (blockWork r port tag body) = s := by
      unfold State.takeRequest
      exact if_pos (Nat.lt_of_not_le hb)
    rw [htoo, ha] at h
    cases h

/-- Settles O13: what a request's work refuses it leaves unchanged (`blockWork_worked`). -/
theorem refusedRequestChangesNoRecord : Obligations.RefusedRequestChangesNoRecord := by
  intro r port tag body s t reason b hq ho ha ht hans
  by_cases hr : selfReset port r body
  · obtain ⟨rfl, ⟨rfl, rfl⟩ | ⟨rfl, rfl⟩⟩ := hr
    · cases Host.Outcome.next.inj (exec_resetPort_own.symm.trans ht)
      cases State.acceptedWith_answer.symm.trans hans
    · cases Host.Outcome.next.inj (exec_fleetReset.symm.trans ht)
      cases State.acceptedWith_answer.symm.trans hans
  · cases (exec_command hr).symm.trans ht
    rw [State.settled_ports] at hans
    rw [takeRequest_refusal ho ha hans, State.Quiet.settled_eq]
    exact hq

theorem overlapped_exec {s : State} (hq : s.Quiet) (ho : (s.ports.rd port).outstanding ≠ none) (hb : body.length ≤ 120)
    (hr : ∀ r, Request.ofCode code = some r → ¬ selfReset port r body) :
    exec (.overlap port code tag body) s = .next (s.overlapped port code tag) := by
  have hsome : (s.ports.rd port).outstanding.isSome = true := Option.isSome_iff_ne_none.mpr ho
  have hlen : ¬ towerBodyMax < body.length := Nat.not_lt.mpr hb
  change s.requestFrame port code tag body = _
  unfold State.requestFrame
  split
  · next r hc =>
    rw [execRequest_eq, exec_command (hr r hc)]
    unfold State.takeRequest
    rw [if_neg hlen, if_pos hsome, Request.code_of_ofCode hc, State.Quiet.settled_eq]
    exact (State.overlapped_stepped code).2 hq
  · unfold State.takeUnknown
    rw [if_neg hlen, if_pos hsome]

/-- Settles O15: each frame by the branch of R174 that takes it, and the bytes of a frame by `TowerFrame.receive`. -/
theorem untakenFramesChangeNoRecord : Obligations.UntakenFramesChangeNoRecord := by
  refine ⟨fun port code tag body s hq ho hb hr => ?_, fun port code tag body s hc ho hb => ?_,
    fun port bytes s h => ?_, fun port r tag outcome reason body s hb => ?_⟩
  · rw [overlapped_exec hq ho hb hr]
    unfold State.overlapped
    refine ⟨fun hn => ?_, fun hn => ?_⟩
    · rw [hn]
      rfl
    · obtain ⟨a, ha⟩ := Option.ne_none_iff_exists'.mp hn
      rw [ha]
  · change s.requestFrame port code tag body = _
    unfold State.requestFrame State.takeUnknown
    rw [hc]
    dsimp only
    rw [if_neg (show ¬ towerBodyMax < body.length from Nat.not_lt.mpr hb), if_neg (by simp [ho])]
    simp [State.beginRequest, State.reply, State.placeAnswer, State.setPort]
  · change execTowerFrameDiscarded port bytes s = _
    unfold execTowerFrameDiscarded
    split
    · next f hf => exact if_neg (h f hf)
    · rfl
  · change execTowerFrameDiscarded port _ s = _
    unfold execTowerFrameDiscarded
    rw [TowerFrame.receive_request hb]
    dsimp only
    rw [if_pos (show (1 : Byte) = kindRequest from rfl)]
    unfold State.requestFrame
    rw [Request.ofCode_code]
    exact execRequest_eq

end Sys2Proof.Machine
end


section
/-! SUPPORT. A request accepted or refused by its block's work; the transmitter, the ports and attention. -/

namespace Sys2Proof.Machine

variable {s t : State} {port n : PortNo} {tag : Byte} {body b : List Byte} {r : Request} {reason : Reason} {x : Port}

/-! ### A request by what its work comes to -/

theorem not_selfReset (hr : r ≠ .resetPort ∧ r ≠ .fleetReset) : ¬ selfReset port r body := by
  rintro ⟨-, ⟨h, -⟩ | ⟨h, -⟩⟩
  · exact hr.1 h
  · exact hr.2 h

/-- A request whose work accepts it: the state the work leaves, with the answer. -/
theorem exec_accepted (h : s.Ready port r body) (hw : blockWork r port tag body (s.begun port r tag) = accept b t)
    (hr : ¬ selfReset port r body := by exact not_selfReset (by decide)) :
    exec (r.command port tag body) s = .next ((t.acceptedWith port r tag b).settled r) := by
  rw [exec_command hr, takeRequest_accept h hw]

/-- A request whose work refuses it: nothing but the request and its refusal. -/
theorem exec_refused (h : s.Ready port r body)
    (hw : blockWork r port tag body (s.begun port r tag) = refuse reason (s.begun port r tag))
    (hr : ¬ selfReset port r body := by exact not_selfReset (by decide)) : exec (r.command port tag body) s
      = .next (((s.begun port r tag).replied port r tag (.refused reason) []).settled r) := by
  rw [exec_command hr, takeRequest_refuse h hw]

theorem State.settled_serves (hm : mayMark r = true) : s.settled r = s.serveChannels := if_pos hm

/-- A request that may set marks, accepted: its step ends with the arbiters' choice. -/
theorem exec_accepted_serving (h : s.Ready port r body)
    (hw : blockWork r port tag body (s.begun port r tag) = accept b t)
    (hr : ¬ selfReset port r body := by exact not_selfReset (by decide)) (hm : mayMark r = true := by rfl) :
    exec (r.command port tag body) s = .next (t.acceptedWith port r tag b).serveChannels := by
  rw [exec_accepted h hw hr, State.settled_serves hm]

theorem exec_refused_serving (h : s.Ready port r body)
    (hw : blockWork r port tag body (s.begun port r tag) = refuse reason (s.begun port r tag))
    (hr : ¬ selfReset port r body := by exact not_selfReset (by decide)) (hm : mayMark r = true := by rfl) :
    exec (r.command port tag body) s
      = .next ((s.begun port r tag).replied port r tag (.refused reason) []).serveChannels := by
  rw [exec_refused h hw hr, State.settled_serves hm]

theorem numberBelow_of_eq {k m : Nat} {i : Fin k} (h : m = i.val) : numberBelow k m = some i :=
  h ▸ numberBelow_val i

theorem numberBelow_eq_none {k m : Nat} (h : k ≤ m) : numberBelow k m = none := dif_neg (Nat.not_lt.mpr h)

/-! ### The transmitter (R179, R181) -/

theorem Port.begin_answer {a : Answer} (hx : x.transmitter = .idle) (ha : x.answer = some a) :
    x.begin = { x with transmitter := .answer a } := by
  simp [Port.begin, hx, ha]

theorem Port.begin_overlap {a : Answer} (hx : x.transmitter = .idle) (ha : x.answer = none) (ho : x.overlap = some a) :
    x.begin = { x with transmitter := .overlap a } := by
  simp [Port.begin, hx, ha, ho]

theorem Port.begin_attention (hx : x.transmitter = .idle) (ha : x.answer = none) (ho : x.overlap = none)
    (hn : x.attention = true) (hm : x.raw &&& x.mask ≠ 0) :
    x.begin = { x with attention := false, transmitter := .attention (x.raw &&& x.mask) } := by
  simp only [Port.begin, hx, ha, ho, hn, if_true, Port.masked, hm, if_false]

theorem Port.begin_dropped (hx : x.transmitter = .idle) (ha : x.answer = none) (ho : x.overlap = none)
    (hn : x.attention = true) (hm : x.raw &&& x.mask = 0) : x.begin = { x with attention := false } := by
  simp only [Port.begin, hx, ha, ho, hn, if_true, Port.masked, hm]

/-- Settles O18: each clause is one branch of `Port.begin` or of `Port.sent`. -/
theorem transmitterSendsInOrder : Obligations.TransmitterSendsInOrder := by
  rintro port s p rfl
  have hbegin : exec (.transmitterBegin port) s = .next (s.setPort port (s.ports.rd port).begin) := rfl
  have hsent : exec (.frameSentWhole port) s = .next (s.setPort port (s.ports.rd port).sent) := rfl
  refine ⟨fun hx => ⟨fun a ha => ?_, fun a ha ho => ?_, fun ha ho hn hm => ?_, fun ha ho hn hm => ?_⟩,
    fun a hx => ?_, fun a hx => ?_, fun m hx => ?_⟩
  · rw [hbegin, Port.begin_answer hx ha]
    rfl
  · rw [hbegin, Port.begin_overlap hx ha ho]
    rfl
  · rw [hbegin, Port.begin_attention hx ha ho hn hm]
    rfl
  · rw [hbegin, Port.begin_dropped hx ha ho hn hm]
    rfl
  · rw [hsent, Port.sent, hx]
    rfl
  · rw [hsent, Port.sent, hx]
    rfl
  · rw [hsent, Port.sent, hx]
    rfl

/-! ### Ports reset and bound (R184, R185) -/

theorem State.begun_rd_of_ne (h : n ≠ port) : (s.begun port r tag).ports.rd n = s.ports.rd n := by
  rw [State.begun_ports_rd, if_neg (Ne.symm h)]

/-- The roles that BIND PORT may give a port (R185). -/
theorem boundRole_unbound (hl : body.length = 2) (h : u8 body 1 = 3) : boundRole body = some .unbound := by
  simp [boundRole, hl, h]

theorem boundRole_supplies (hl : body.length = 2) (h : u8 body 1 = 2) : boundRole body = some .supplies := by
  simp [boundRole, hl, h]

theorem boundRole_tenant {v : TenantNo} (hl : body.length = 3) (h : u8 body 1 = 1) (hv : u8 body 2 = v.val + 1) :
    boundRole body = some (.tenant v) := by
  simp [boundRole, hl, h, tenantOf_eq_some hv]

/-- What BIND PORT does once its body is read and the role may be given. -/
theorem workBindPort_accept {role : Role} (hn : numberBelow 8 (u8 body 0) = some n) (h0 : n ≠ 0)
    (hb : boundRole body = some role) (hd : ∀ v, role = .tenant v → s.defined v = true)
    (hs : role = .supplies → s.suppliesElsewhere n = false) :
    workBindPort body s = accept [] (s.bindPort n role) := by
  simp only [workBindPort, hn, hb, if_neg h0]
  split
  · next v => rw [if_pos (hd v rfl)]
  · rw [if_neg (by simp [hs rfl])]
  · rfl

theorem State.suppliesElsewhere_of_forall (h : ∀ m, m ≠ n → (s.ports.rd m).role ≠ .supplies) :
    s.suppliesElsewhere n = false := by
  rw [State.suppliesElsewhere, List.any_eq_false]
  intro m _
  have := h m
  simp only [Bool.and_eq_true, decide_eq_true_eq]
  exact fun hm => h m hm.1 hm.2

theorem State.begun_role (m : PortNo) : ((s.begun port r tag).ports.rd m).role = (s.ports.rd m).role := by
  rw [State.begun_ports_rd]
  split
  · next e => rw [e]
  · rfl

/-- Settles O19, by the equations of `State.resetPort` and `State.bindPort`. -/
theorem portsAreResetAndBound : Obligations.PortsAreResetAndBound := by
  refine ⟨fun s tag body n h hl hn h0 => ?_, fun s tag => ?_, fun s tag body n role h hn h0 hrole => ?_⟩
  · have hw : workResetPort body (s.begun 0 .resetPort tag) = accept [] ((s.begun 0 .resetPort tag).resetPort n) := by
      simp [workResetPort, hl, numberBelow_of_eq hn]
    have hself : ¬ selfReset 0 .resetPort body := by
      rintro ⟨-, ⟨-, rfl⟩ | ⟨h, -⟩⟩
      · exact h0 (Fin.ext hn.symm)
      · cases h
    rw [State.resetPort, if_neg h0, State.begun_rd_of_ne h0] at hw
    exact exec_accepted (r := .resetPort) h hw hself
  · refine ⟨_, exec_resetPort_own, rfl, ?_, fun p sh who hp => ?_, fun p hp => ?_⟩
    · simp only [State.acceptedWith, State.replied, State.begun, State.resetPort, if_true, State.setPort, Port.reset,
        Port.cut, Table.rd_wr_self, Table.wr_wr_self, Port.masked]
      rfl
    · change ((s.setPort 0 (s.ports.rd 0).reset).printers.map Printer.forgetRequester).rd p = _
      rw [Table.rd_map, State.setPort_printers, hp]
      rfl
    · change ((s.setPort 0 (s.ports.rd 0).reset).printers.map Printer.forgetRequester).rd p = _
      rw [Table.rd_map, State.setPort_printers]
      cases h : s.printers.rd p with
      | enrolling sh who => exact absurd h (hp sh who)
      | _ => rfl
  · have hbound : boundRole body = some role ∧ (∀ v, role = .tenant v → (s.begun 0 .bindPort tag).defined v = true)
        ∧ (role = .supplies → (s.begun 0 .bindPort tag).suppliesElsewhere n = false) := by
      obtain ⟨rfl, hl, hb⟩ | ⟨rfl, hl, hb, hs⟩ | ⟨v, rfl, hl, hb, hv, hd⟩ := hrole
      · exact ⟨boundRole_unbound hl hb, by simp, by simp⟩
      · refine ⟨boundRole_supplies hl hb, by simp, fun _ => State.suppliesElsewhere_of_forall fun m hm => ?_⟩
        rw [State.begun_role]
        exact hs m hm
      · refine ⟨boundRole_tenant hl hb hv, ?_, by simp⟩
        rintro _ ⟨⟩
        exact hd
    obtain ⟨hb, hd, hs⟩ := hbound
    exact exec_accepted (r := .bindPort) h (workBindPort_accept (numberBelow_of_eq hn) h0 hb hd hs)

/-! ### Attention (R180, R181, R183) -/

theorem attentionSetAt_of_lt {i : Nat} (h : u16 body i < 4096) :
    attentionSetAt body i = some (BitVec.ofNat 12 (u16 body i)) := if_pos h

theorem attentionSetAt_eq_none {i : Nat} (h : 4096 ≤ u16 body i) : attentionSetAt body i = none :=
  if_neg (Nat.not_lt.mpr h)

theorem workClearAttention_accept (hl : body.length = 2) (hb : u16 body 0 < 4096) :
    workClearAttention port body s = accept (be2 ((s.ports.rd port).raw &&& ~~~ BitVec.ofNat 12 (u16 body 0)).toNat)
      (s.setPort port { s.ports.rd port with raw := (s.ports.rd port).raw &&& ~~~ BitVec.ofNat 12 (u16 body 0) }) := by
  rw [workClearAttention, if_neg (not_not.mpr hl), attentionSetAt_of_lt hb]
  rfl

theorem workSetMask_accept (hl : body.length = 2) (hb : u16 body 0 < 4096) :
    workSetMask port body s = accept
      (be2 (u16 body 0) ++ be2 ((s.ports.rd port).raw &&& BitVec.ofNat 12 (u16 body 0)).toNat)
      (s.setPort port ((s.ports.rd port).withSets (s.ports.rd port).raw (BitVec.ofNat 12 (u16 body 0)))) := by
  have hset : attentionSetBytes (BitVec.ofNat 12 (u16 body 0)) = be2 (u16 body 0) := by
    rw [attentionSetBytes, BitVec.toNat_ofNat, Nat.mod_eq_of_lt hb]
  rw [workSetMask, if_neg (not_not.mpr hl), attentionSetAt_of_lt hb]
  dsimp only
  rw [hset]
  rfl

/-- Settles O20, by the works of the two requests and the equation of `State.raise`. -/
theorem attentionIsClearedMaskedAndRaised : Obligations.AttentionIsClearedMaskedAndRaised := by
  refine ⟨fun s port tag body h hl hb => ?_, fun s port tag body h hl hb => ?_, fun s port tag body hl hb => ⟨fun h => ?_, fun h => ?_⟩,
    fun s a entitled => ⟨fun n => ?_, rfl⟩⟩
  · refine (exec_accepted (r := .clearAttention) h (workClearAttention_accept hl hb)).trans ?_
    simp [State.acceptedWith, State.replied, State.begun, State.setPort, State.settled, mayMark, Request.code]
  · refine (exec_accepted (r := .setMask) h (workSetMask_accept hl hb)).trans ?_
    simp [State.acceptedWith, State.replied, State.begun, State.setPort, State.settled, mayMark, Request.code,
      Port.withSets, Port.masked]
  · exact exec_refused (r := .clearAttention) h (by
      simp [blockWork, workClearAttention, hl, attentionSetAt_eq_none hb])
  · exact exec_refused (r := .setMask) h (by simp [blockWork, workSetMask, hl, attentionSetAt_eq_none hb])
  · rw [State.raise, Table.rd_map]
    rfl

end Sys2Proof.Machine
end


section
/-! SUPPORT. The queries: each answers the records as they stand. -/

namespace Sys2Proof.Machine

variable {s t : State} {port n : PortNo} {tag : Byte} {body b : List Byte} {r : Request} {reason : Reason}
  {p : PrinterNo} {v : TenantNo} {e : Enrolled} {h : Handle} {j : Job} {key : AccountKey}

/-! ### Ports, printers, tenants -/

/-- Settles O21, by unfolding the two works, whose answers are the port's fields. -/
theorem portQueriesReadThePort : Obligations.PortQueriesReadThePort := by
  refine ⟨fun s port n tag body p h hl hn hp => ?_, fun s port tag p h hp => ?_, rfl, rfl, rfl, fun t => rfl⟩
  · refine exec_accepted (r := .queryPort) h ?_
    simp only [blockWork, workQueryPort, hl, ne_eq, not_true, if_false, numberBelow_of_eq hn, hp, portBody]
    cases p.outstanding <;> rfl
  · subst hp
    refine exec_accepted (r := .readAttention) h ?_
    simp only [blockWork, workReadAttention, List.length_nil, ne_eq, not_true, if_false, State.begun_ports_rd, if_true,
      attentionSetBytes, Port.masked]

theorem onPrinter_named {f : PrinterNo → State → State × Option Reply} (hl : body.length = 1) (hp : u8 body 0 = p.val) :
    onPrinter body s f = f p s := by
  simp [onPrinter, hl, numberBelow_of_eq hp]

theorem serviceCode_enrolled (e : Enrolled) : be1 (Printer.serviceCode (.enrolled e))
    = [match e.service with | .inService => 2 | .draining => 3 | .disabled => 4] := by
  cases hv : e.service <;> simp [Printer.serviceCode, hv, be1, byteOf]

theorem State.printerForFacilities_enrolled (he : s.printers.rd p = .enrolled e) : s.printerForFacilities p
    = be1 p.val ++ be1 (Printer.serviceCode (.enrolled e)) ++ s.enrolledFields p e := by
  simp [State.printerForFacilities, he]

/-- Settles O22, by the role that asks and the service state that stands. -/
theorem printerAndTenantAreReadByRole : Obligations.PrinterAndTenantAreReadByRole := by
  refine ⟨fun s port tag body p h hl hp => ⟨fun hr => ⟨fun he => ?_, fun sh who he => ?_, fun e he => ?_⟩,
    fun t hr => ⟨fun e he hg => ?_, fun hg => ?_⟩⟩,
    fun s port tag body t h hl ht => ⟨fun hr => ⟨fun x hx => ?_, fun hx => ?_⟩, fun u hu hr => ?_⟩⟩
  · refine exec_accepted (r := .queryPrinter) h ((onPrinter_named hl hp).trans ?_)
    simp only [workQueryPrinter, State.begun_role, hr, State.printerForFacilities, State.begun_printers, he]
    rfl
  · refine exec_accepted (r := .queryPrinter) h ((onPrinter_named hl hp).trans ?_)
    simp only [workQueryPrinter, State.begun_role, hr, State.printerForFacilities, State.begun_printers, he]
    rfl
  · refine exec_accepted (r := .queryPrinter) h ((onPrinter_named hl hp).trans ?_)
    simp only [workQueryPrinter, State.begun_role, hr]
    rw [State.printerForFacilities_enrolled (s := s.begun port .queryPrinter tag) he, serviceCode_enrolled]
    rfl
  · refine exec_accepted (r := .queryPrinter) h ((onPrinter_named hl hp).trans ?_)
    simp only [workQueryPrinter, State.begun_role, hr, State.begun_enrolled, State.enrolled_eq_some.mpr he, hg, if_true,
      printerForTenant, serviceCode_enrolled]
    rfl
  · refine exec_refused (r := .queryPrinter) h ((onPrinter_named hl hp).trans ?_)
    simp only [workQueryPrinter, State.begun_role, hr, State.begun_enrolled]
    cases he : s.enrolled p with
    | none => rfl
    | some e => exact if_neg (by simp [hg e (State.enrolled_eq_some.mp he)])
  · have hw : workQueryTenant port t (s.begun port .queryTenant tag) = accept (tenantBody x) (s.begun port .queryTenant tag) := by
      simp only [workQueryTenant, State.begun_role, State.begun_tenants, hx]
      obtain hr | hr := hr <;> simp [hr]
    exact exec_accepted (r := .queryTenant) h ((onTenantNumber_named hl ht).trans hw)
  · have hw : workQueryTenant port t (s.begun port .queryTenant tag) = accept [0] (s.begun port .queryTenant tag) := by
      simp only [workQueryTenant, State.begun_role, State.begun_tenants, hx]
      obtain hr | hr := hr <;> simp [hr] <;> rfl
    exact exec_accepted (r := .queryTenant) h ((onTenantNumber_named hl ht).trans hw)
  · refine exec_refused (r := .queryTenant) h ((onTenantNumber_named hl ht).trans ?_)
    simp only [workQueryTenant, State.begun_role, hr, if_neg hu]

/-! ### Accounts -/

theorem State.nextAccount_eq (v : TenantNo) (k : Nat) : s.nextAccount v k
    = (s.accounts.filter fun a => decide (a.key.tenant = v) && decide (k ≤ a.key.number)).argmin (·.key.number) := by
  unfold State.nextAccount List.argmin List.argAux
  congr 1
  funext best a
  cases best <;> rfl

theorem State.nextReorder_eq (k : Nat) :
    s.nextReorder k = (s.reorders.filter fun r => decide (k ≤ r.number)).argmin (·.number) := by
  unfold State.nextReorder List.argmin List.argAux
  congr 1
  funext best r
  cases best <;> rfl

/-- The least record of a list is the one below all others, where numbers tell records apart. -/
theorem argmin_eq_of_le {α : Type} {f : α → Nat} {l : List α} {a : α} (ha : a ∈ l) (hle : ∀ b ∈ l, f a ≤ f b)
    (hinj : ∀ b ∈ l, f a = f b → a = b) : l.argmin f = some a := by
  cases hm : l.argmin f with
  | none => exact absurd (List.argmin_eq_none.mp hm ▸ ha) List.not_mem_nil
  | some b =>
    have hb := List.argmin_mem hm
    have := List.le_of_mem_argmin ha hm
    rw [hinj b hb (Nat.le_antisymm (hle b hb) this)]

theorem State.nextAccount_of_least {a : Account} {k : Nat} (hn : (s.accounts.map (·.key)).Nodup) (ha : a ∈ s.accounts)
    (hv : a.key.tenant = v) (hk : k ≤ a.key.number)
    (hle : ∀ b ∈ s.accounts, b.key.tenant = v → k ≤ b.key.number → a.key.number ≤ b.key.number) :
    s.nextAccount v k = some a := by
  rw [State.nextAccount_eq]
  refine argmin_eq_of_le (by simp [ha, hv, hk]) (fun b hb => ?_) fun b hb he => ?_
  · simp only [List.mem_filter, Bool.and_eq_true, decide_eq_true_eq] at hb
    exact hle b hb.1 hb.2.1 hb.2.2
  · simp only [List.mem_filter, Bool.and_eq_true, decide_eq_true_eq] at hb
    refine List.inj_on_of_nodup_map hn ha hb.1 ?_
    obtain ⟨-, hb, -⟩ := hb
    cases hak : a.key
    cases hbk : b.key
    simp_all

theorem State.nextAccount_eq_none {k : Nat} (h : ∀ a ∈ s.accounts, a.key.tenant = v → a.key.number < k) :
    s.nextAccount v k = none := by
  rw [State.nextAccount_eq, List.argmin_eq_none, List.filter_eq_nil_iff]
  intro a ha
  simp only [Bool.and_eq_true, decide_eq_true_eq, not_and, not_le]
  exact h a ha

theorem State.account_of_mem {a : Account} (hn : (s.accounts.map (·.key)).Nodup) (ha : a ∈ s.accounts) :
    s.account a.key = some a := by
  cases h : s.account a.key with
  | none =>
    have := List.find?_eq_none.mp h a ha
    simp at this
  | some b => rw [List.inj_on_of_nodup_map hn (State.account_mem h) ha (State.account_key h)]

theorem State.account_eq_none (h : ∀ a ∈ s.accounts, a.key ≠ key) : s.account key = none :=
  List.find?_eq_none.mpr fun a ha => by simpa using h a ha

theorem onTenant_of_role {f : TenantNo → State → State × Option Reply} (hr : (s.ports.rd port).role = .tenant v) :
    onTenant s port f = f v s := by
  simp [onTenant, hr]

theorem accountKeyAt_of_ne {i : Nat} (h : u16 body i ≠ 0) : accountKeyAt v body i = some ⟨v, u16 body i⟩ := if_neg h

/-- QUERY ACCOUNT, once its body is read: the account that the number names, or the next one (R55). -/
theorem workQueryAccount_eq {o : Option Account} (hl : body.length = 3) (h0 : u16 body 0 ≠ 0) {next : Bool}
    (hf : u8 body 2 = next.toNat)
    (ho : (if next then s.nextAccount v (u16 body 0) else s.account ⟨v, u16 body 0⟩) = o) :
    workQueryAccount body v s = (o.map fun a => accept (accountBody a) s).getD (refuse .noSuch s) := by
  have hflag : flagAt body 2 = some next := by
    unfold flagAt
    rw [hf]
    cases next <;> rfl
  simp only [workQueryAccount, hl, ne_eq, not_true, if_false, accountKeyAt_of_ne h0, hflag, ho]
  cases o <;> rfl

theorem queryAccount_readByTenant {s : State} (h : s.Ready port .queryAccount body)
    (hr : (s.ports.rd port).role = .tenant v) (hl : body.length = 3) (h0 : u16 body 0 ≠ 0)
    (hn : (s.accounts.map (·.key)).Nodup) :
    (∀ a ∈ s.accounts, (u8 body 2 = 0 ∧ a.key = ⟨v, u16 body 0⟩
          ∨ u8 body 2 = 1 ∧ a.key.tenant = v ∧ u16 body 0 ≤ a.key.number
            ∧ ∀ b ∈ s.accounts, b.key.tenant = v → u16 body 0 ≤ b.key.number → a.key.number ≤ b.key.number) →
        exec (.queryAccount port tag body) s
          = .next ((s.begun port .queryAccount tag).acceptedWith port .queryAccount tag (accountBody a)))
      ∧ ((u8 body 2 = 0 ∧ (∀ a ∈ s.accounts, a.key ≠ ⟨v, u16 body 0⟩)
          ∨ u8 body 2 = 1 ∧ (∀ a ∈ s.accounts, a.key.tenant = v → a.key.number < u16 body 0)) →
        exec (.queryAccount port tag body) s
          = .next ((s.begun port .queryAccount tag).replied port .queryAccount tag (.refused .noSuch) [])) := by
  have hrole := onTenant_of_role (s := s.begun port .queryAccount tag) (f := workQueryAccount body)
    ((State.begun_role port).trans hr)
  constructor
  · rintro a ha (⟨h2, hk⟩ | ⟨h2, hv, hk, hle⟩)
    · exact exec_accepted (r := .queryAccount) h (hrole.trans (workQueryAccount_eq (next := false) (o := some a) hl h0 h2
        (hk ▸ State.account_of_mem hn ha)))
    · exact exec_accepted (r := .queryAccount) h (hrole.trans (workQueryAccount_eq (next := true) (o := some a) hl h0 h2
        (State.nextAccount_of_least (s := s) hn ha hv hk hle)))
  · rintro (⟨h2, hk⟩ | ⟨h2, hk⟩)
    · exact exec_refused (r := .queryAccount) h (hrole.trans (workQueryAccount_eq (next := false) (o := none) hl h0 h2
        (State.account_eq_none hk)))
    · exact exec_refused (r := .queryAccount) h (hrole.trans (workQueryAccount_eq (next := true) (o := none) hl h0 h2
        (State.nextAccount_eq_none (s := s) hk)))

/-! ### Jobs -/

theorem State.recordOfTag_eq (hj : s.job h = some j)
    (huniq : ∀ m i, s.jobAt m = some i → i.owner.tenant = j.owner.tenant → i.tag = j.tag → m = h.record) :
    s.recordOfTag j.owner.tenant j.tag = some h.record := by
  have hjat := State.jobAt_of_job hj
  unfold State.recordOfTag
  refine find?_finRange_eq_some.mpr ⟨by simp [hjat], fun m hm => ?_⟩
  cases hi : s.jobAt m with
  | none => rfl
  | some i =>
    have hne : ¬ (i.owner.tenant = j.owner.tenant ∧ i.tag = j.tag) := fun hp =>
      Fin.ne_of_lt hm (huniq m i hi hp.1 hp.2)
    simpa using hne

theorem State.tenantJob_of_owner (hj : s.job h = some j) : s.tenantJob h j.owner.tenant = some j := by
  simp [State.tenantJob, hj]

theorem State.answerJobOfTag_eq (hj : s.job h = some j)
    (huniq : ∀ m i, s.jobAt m = some i → i.owner.tenant = j.owner.tenant → i.tag = j.tag → m = h.record) :
    s.answerJobOfTag j.owner.tenant j.tag = accept (s.jobBody h j) s := by
  unfold State.answerJobOfTag
  simp only [State.recordOfTag_eq hj huniq, State.jobAt_of_job hj, State.handleOf_of_job hj, State.answerJob]

/-- QUERY JOB, in each of its readings: the job of a handle or of a tag, for the facilities port and for the tenant
that owns it (R75). -/
theorem workQueryJob_eq (hj : s.job h = some j)
    (hc : (u8 body 0 = 0 ∧ body.length = 3 ∧ handleAt body 1 = h
          ∧ ((s.ports.rd port).role = .facilities ∨ (s.ports.rd port).role = .tenant j.owner.tenant))
        ∨ (u8 body 0 = 1 ∧ u16 body 1 = j.tag
          ∧ (∀ m i, s.jobAt m = some i → i.owner.tenant = j.owner.tenant → i.tag = j.tag → m = h.record)
          ∧ ((s.ports.rd port).role = .facilities ∧ body.length = 4 ∧ u8 body 3 = j.owner.tenant.val + 1
            ∨ (s.ports.rd port).role = .tenant j.owner.tenant ∧ body.length = 3))) :
    workQueryJob port body s = accept (s.jobBody h j) s := by
  obtain ⟨h0, hl, rfl, hr | hr⟩ | ⟨h0, ht, huniq, ⟨hr, hl, hv⟩ | ⟨hr, hl⟩⟩ := hc
  · simp only [workQueryJob, hr, h0, hl, if_true, hj, State.answerJob]
  · simp only [workQueryJob, hr, h0, hl, if_true, State.tenantJob_of_owner hj, State.answerJob]
  · simp only [workQueryJob, hr, h0, hl, ne_eq, not_true, if_false, tenantOf_eq_some hv, ht]
    exact State.answerJobOfTag_eq hj huniq
  · simp only [workQueryJob, hr, h0, hl, if_true, ht]
    exact State.answerJobOfTag_eq hj huniq

theorem State.begun_jobBody : (s.begun port r tag).jobBody h j = s.jobBody h j := rfl

/-- Settles O23, by `queryAccount_readByTenant` and `workQueryJob_eq`. -/
theorem accountAndJobAreReadByTheirTenant : Obligations.AccountAndJobAreReadByTheirTenant := by
  refine ⟨fun s port tag body t h hr hl h0 hn => queryAccount_readByTenant h hr hl h0 hn,
    fun s port tag body h j hready hj => ⟨fun hc => ?_, fun t ht hr h0 hl hh => ?_⟩⟩
  · have hc' := workQueryJob_eq (s := s.begun port .queryJob tag) (port := port) hj (by simpa only [State.begun_role, State.begun_jobAt] using hc)
    refine (exec_accepted (r := .queryJob) hready hc').trans ?_
    rw [State.begun_jobBody]
    refine congrArg (fun b => Host.Outcome.next ((s.begun port .queryJob tag).acceptedWith port .queryJob tag b)) ?_
    unfold State.jobBody jobHoldBytes releaseBytes Job.resumeFrom
    refine congrArg (· ++ flagByte (s.inEligible h)) (congrArg₂ (· ++ ·) ?_ ?_)
    · cases j.state with
      | complete o c => cases o <;> rfl
      | _ => rfl
    · cases s.releasePrinter h <;> rfl
  · refine exec_refused (r := .queryJob) hready ?_
    simp only [blockWork, workQueryJob, State.begun_role, hr, h0, hl, if_true, hh, State.tenantJob, State.begun_job, hj,
      if_neg (Ne.symm ht), State.answerJob]

end Sys2Proof.Machine
end


section
/-! SUPPORT. Slots, reorders and callouts as they are read. -/

namespace Sys2Proof.Machine

variable {s t : State} {port n : PortNo} {tag : Byte} {body b : List Byte} {r : Request} {p : PrinterNo} {e : Enrolled}
  {i : Nat} {x : Slot}

theorem slotEmptyOf_supply {code : Byte} (hi : i < 5) :
    slotEmptyOf .supply code = some i ↔ code.toNat = i + 1 := by
  unfold slotEmptyOf
  simp only [true_and, ite_eq_iff, reduceCtorEq, and_false, or_false, Option.some.injEq]
  omega

theorem workQuerySlot_eq (hl : body.length = 2) (hp : u8 body 0 = p.val) (hs : u8 body 1 = i) (hi : i < 5)
    (he : s.printers.rd p = .enrolled e) (hx : e.slots[i]? = some x) : workQuerySlot body s
      = accept (be1 p.val ++ be1 i ++ slotBody x ++ be1 e.descriptor.floorPercent
          ++ flagByte (decide (e.codes.supply.toNat = i + 1)) ++ openReorderBytes (s.openReorder p i)) s := by
  have hslot : s.slot p i = some x := (State.slot_of he).trans hx
  have hflag : decide (slotEmptyOf .supply e.codes.supply = some i) = decide (e.codes.supply.toNat = i + 1) :=
    decide_eq_decide.mpr (slotEmptyOf_supply hi)
  simp only [workQuerySlot, hl, ne_eq, not_true, if_false, numberBelow_of_eq hp,
    numberBelow_of_eq (i := (⟨i, hi⟩ : Fin 5)) hs, State.enrolled_eq_some.mpr he, hslot, hflag]

/-! ### Reorders -/

theorem State.reorder_of_mem {q : Reorder} (hn : (s.reorders.map (·.number)).Nodup) (hq : q ∈ s.reorders) :
    s.reorder q.number = some q := by
  cases h : s.reorder q.number with
  | none =>
    have := List.find?_eq_none.mp h q hq
    simp at this
  | some r =>
    have hr : r.number = q.number := by simpa using List.find?_some h
    rw [eq_of_number_eq hn (List.mem_of_find?_eq_some h) hq hr]

theorem State.nextReorder_of_least {q : Reorder} {k : Nat} (hn : (s.reorders.map (·.number)).Nodup)
    (hq : q ∈ s.reorders) (hk : k ≤ q.number) (hle : ∀ r ∈ s.reorders, k ≤ r.number → q.number ≤ r.number) :
    s.nextReorder k = some q := by
  rw [State.nextReorder_eq]
  refine argmin_eq_of_le (by simp [hq, hk]) (fun r hr => ?_) fun r hr he => ?_
  · simp only [List.mem_filter, decide_eq_true_eq] at hr
    exact hle r hr.1 hr.2
  · exact eq_of_number_eq hn hq (List.mem_of_mem_filter hr) he

theorem flagAt_of_eq {f : Bool} (hf : u8 body i = f.toNat) : flagAt body i = some f := by
  unfold flagAt
  rw [hf]
  cases f <;> rfl

theorem orderNumberAt_of_ne (h : u16 body i ≠ 0) : orderNumberAt body i = some (u16 body i) := if_neg h

theorem workQueryOrder_eq (hl : body.length = 3) (h0 : u16 body 0 ≠ 0) {q : Reorder} (hq : q ∈ s.reorders)
    (hn : (s.reorders.map (·.number)).Nodup)
    (hc : u8 body 2 = 0 ∧ q.number = u16 body 0
      ∨ u8 body 2 = 1 ∧ u16 body 0 ≤ q.number ∧ ∀ r ∈ s.reorders, u16 body 0 ≤ r.number → q.number ≤ r.number) :
    workQueryOrder body s = accept (s.orderBody q) s := by
  obtain ⟨h2, hk⟩ | ⟨h2, hk, hle⟩ := hc
  · simp only [workQueryOrder, hl, ne_eq, not_true, if_false, orderNumberAt_of_ne h0, flagAt_of_eq (f := false) h2,
      Bool.false_eq_true, ← hk, State.reorder_of_mem hn hq]
  · simp only [workQueryOrder, hl, ne_eq, not_true, if_false, orderNumberAt_of_ne h0, flagAt_of_eq (f := true) h2,
      if_true, State.nextReorder_of_least hn hq hk hle]

/-! ### Callouts -/

theorem calloutClass_code (n : CalloutNo) : condClassCode (calloutClass n) = n.val % 3 + 1 := by
  have h3 : n.val % 3 < 3 := Nat.mod_lt _ (by decide)
  unfold calloutClass
  split
  · next h => rw [h]; rfl
  · next h => rw [h]; rfl
  · next h0 h1 =>
    have : n.val % 3 = 2 := by
      have h0' : n.val % 3 ≠ 0 := h0
      have h1' : n.val % 3 ≠ 1 := h1
      omega
    rw [this]
    rfl

theorem State.calloutOf_eq (n : CalloutNo) : s.calloutOf n = s.callouts.rd n := by
  rw [State.calloutOf, State.callout, calloutNo_printer_class]

theorem State.mem_calloutsFrom {k : Nat} {n : CalloutNo} {y : Callout} :
    (n, y) ∈ s.calloutsFrom k ↔ k ≤ n.val ∧ s.callouts.rd n = some y := by
  simp only [State.calloutsFrom, List.mem_filterMap, List.mem_filter, List.mem_finRange, true_and, decide_eq_true_eq,
    State.calloutOf_eq, Option.map_eq_some_iff, Prod.mk.injEq]
  constructor
  · rintro ⟨m, hm, z, hz, rfl, rfl⟩
    exact ⟨hm, hz⟩
  · rintro ⟨hn, hy⟩
    exact ⟨n, hn, y, hy, rfl, rfl⟩

theorem State.calloutsFrom_pairwise (k : Nat) : (s.calloutsFrom k).Pairwise fun x y => x.1 < y.1 := by
  refine List.pairwise_filterMap.mpr (((List.pairwise_lt_finRange 192).filter _).imp ?_)
  intro m n hlt x hx y hy
  obtain ⟨_, _, rfl⟩ := Option.map_eq_some_iff.mp hx
  obtain ⟨_, _, rfl⟩ := Option.map_eq_some_iff.mp hy
  exact hlt

/-- A list in number order that holds just the callouts at or above a number is the list that is read (R169). -/
theorem State.calloutsFrom_eq {k : Nat} {l : List (CalloutNo × Callout)} (hl : (l.map (·.1)).Pairwise (· < ·))
    (hm : ∀ n y, (n, y) ∈ l ↔ k ≤ n.val ∧ s.callouts.rd n = some y) : s.calloutsFrom k = l := by
  have hl' : l.Pairwise fun x y => x.1 < y.1 := List.pairwise_map.mp hl
  have nodup {l : List (CalloutNo × Callout)} (h : l.Pairwise fun x y => x.1 < y.1) : l.Nodup :=
    List.Pairwise.imp (fun {x y} hlt (e : x = y) => absurd (e ▸ hlt : x.1 < x.1) (lt_irrefl _)) h
  refine List.Perm.eq_of_pairwise (fun x y _ _ h h' => absurd (lt_trans h h') (lt_irrefl _))
    (State.calloutsFrom_pairwise k) hl' ?_
  exact (List.perm_ext_iff_of_nodup (nodup (State.calloutsFrom_pairwise k)) (nodup hl')).mpr fun ⟨n, y⟩ => by
    rw [State.mem_calloutsFrom, hm]

theorem State.calloutBody_eq (n : CalloutNo) (y : Callout) : s.calloutBody n y
    = be2 n.val ++ be1 (n.val / 3) ++ be1 (n.val % 3 + 1) ++ [y.code] ++ clockBytes y.openedAt
      ++ be1 y.state.code ++ be1 y.reopenCount ++ optField 2 be2 y.reorder ++ optField 2 handleBytes y.job
      ++ [((s.enrolled (calloutPrinter n)).map (·.codes.get (calloutClass n))).getD 0]
      ++ optField 3 be3 ((s.enrolled (calloutPrinter n)).bind (·.grace.get (calloutClass n))) := by
  simp only [State.calloutBody, calloutClass_code]
  rfl

/-- Settles O24, by `workQuerySlot_eq`, `workQueryOrder_eq` and `State.calloutsFrom_eq`. -/
theorem slotsReordersAndCalloutsAreRead : Obligations.SlotsReordersAndCalloutsAreRead := by
  refine ⟨⟨fun s port tag body p i e x r h hl hp hs hi he hx hr => ?_,
    fun s port tag body r x h hl h0 hm hn hc hx => ?_⟩, fun s port tag body l h hl hlt hpair hm => ?_⟩
  · subst hr
    exact exec_accepted (r := .querySlot) h (workQuerySlot_eq hl hp hs hi he hx)
  · subst hx
    exact exec_accepted (r := .queryOrder) h (workQueryOrder_eq (s := s.begun port .queryOrder tag) hl h0 hm hn hc)
  · have hfrom := State.calloutsFrom_eq (s := s.begun port .queryCallouts tag) hpair hm
    refine exec_accepted (r := .queryCallouts) h ?_
    simp only [blockWork, workQueryCallouts, hl, ne_eq, not_true, if_false,
      numberBelow_of_eq (i := (⟨u16 body 0, hlt⟩ : Fin 192)) rfl, hfrom, State.calloutBody_eq]
    rfl

end Sys2Proof.Machine
end


section
/-! SUPPORT. Enrolment, the descriptor, and the printer requests. -/

namespace Sys2Proof.Machine

variable {s t : State} {port n : PortNo} {tag : Byte} {body b : List Byte} {r : Request} {p : PrinterNo} {e : Enrolled}
  {sh : Sharing} {c : ChannelNo} {k : PositionNo}

/-! ### Enrolment begins (R13) -/

/-- A request accepted whose answer comes later. -/
theorem exec_waiting (h : s.Ready port r body) (hw : blockWork r port tag body (s.begun port r tag) = (t, none))
    (hr : ¬ selfReset port r body := by exact not_selfReset (by decide)) (hm : mayMark r = true := by rfl) :
    exec (r.command port tag body) s = .next t.serveChannels := by
  rw [exec_command hr, takeRequest_ready h, hw, State.settled_serves hm]
  rfl

theorem State.sharingDefined_of_forall (h : ∀ v ∈ sh.named, (s.tenants.rd v).isSome = true) :
    s.sharingDefined sh = true := List.all_eq_true.mpr h

theorem State.sharingDefined_eq_false (h : ∃ v ∈ sh.named, s.tenants.rd v = none) : s.sharingDefined sh = false := by
  obtain ⟨v, hv, hn⟩ := h
  refine List.all_eq_false.mpr ⟨v, hv, ?_⟩
  simp [State.defined, hn]

/-- ENROL PRINTER, once its body is read. -/
theorem workEnrolPrinter_eq (hl : body.length = 5) (hc : u8 body 0 = c.val) (hk : u8 body 1 = k.val)
    (hs : sharingAt body 2 = some sh) : workEnrolPrinter port tag body s =
      if s.sharingDefined sh = false then refuse .noSuch s
      else if s.printers.rd (printerAt c k) = .absent then
        ((s.setPrinter (printerAt c k) (.enrolling sh (some (port, tag)))).setMark (printerAt c k) .describe, none)
      else refuse .wrongState s := by
  simp only [workEnrolPrinter, hl, ne_eq, not_true, if_false, numberBelow_of_eq hc, numberBelow_of_eq hk, hs,
    Bool.not_eq_true']
  split
  · rfl
  · split
    · next h => rw [if_pos h]
    · next h => rw [if_neg h]

theorem tenantsOf_singleton : ∀ v : TenantNo, tenantsOf (BitVec.ofNat 16 (2 ^ v.val)) = [v] := by decide

/-- Settles O25, by `workEnrolPrinter_eq` and the codes of a sharing field. -/
theorem enrolmentBegins : Obligations.EnrolmentBegins := by
  refine ⟨fun s port tag body c k sh h hl hc hk hs => ⟨fun hd ha => ?_, fun hd ha => ?_, fun hd => ?_⟩,
    fun b i t h0 ht => ?_, fun b i h1 => ?_, fun t u => ?_, fun set t => rfl⟩
  · have hw := workEnrolPrinter_eq (s := s.begun port .enrolPrinter tag) (port := port) (tag := tag) hl hc hk hs
    rw [if_neg (by simp [State.sharingDefined_of_forall hd]), State.begun_printers, if_pos ha] at hw
    exact exec_waiting (r := .enrolPrinter) h hw
  · have hw := workEnrolPrinter_eq (s := s.begun port .enrolPrinter tag) (port := port) (tag := tag) hl hc hk hs
    rw [if_neg (by simp [State.sharingDefined_of_forall hd]), State.begun_printers, if_neg ha] at hw
    exact exec_refused_serving (r := .enrolPrinter) h hw
  · have hw := workEnrolPrinter_eq (s := s.begun port .enrolPrinter tag) (port := port) (tag := tag) hl hc hk hs
    rw [if_pos (by rw [State.begun_sharingDefined, State.sharingDefined_eq_false hd])] at hw
    exact exec_refused_serving (r := .enrolPrinter) h hw
  · simp only [sharingAt, h0, ht, tenantsOf_singleton]
  · simp only [sharingAt, h1]
  · simp only [Sharing.gives, decide_eq_true_eq]
    exact eq_comm

/-! ### Enrolment ends (R13, R15) -/

theorem State.answerEnrolment_waiting {status : Status} (h : (s.ports.rd n).outstanding = some ⟨0x10, tag⟩) :
    s.answerEnrolment (some (n, tag)) status b
      = s.setPort n { s.ports.rd n with answer := some ⟨0x10, tag, status, b⟩ } := by
  exact if_pos h

theorem State.answerEnrolment_gone {status : Status} (h : (s.ports.rd n).outstanding ≠ some ⟨0x10, tag⟩) :
    s.answerEnrolment (some (n, tag)) status b = s := if_neg h

/-- Settles O26, by whether the descriptor is valid and whether the requester still waits. -/
theorem enrolmentEnds : Obligations.EnrolmentEnds := by
  intro s c k body sh port tag hask hp hb
  have hnot : s.enrolled (printerAt c k) = none := by simp [State.enrolled, hp, Printer.enrolled?]
  have hexec : exec (.describeAnswer c k body) s
      = .next ((s.setChannel c .idle).described (printerAt c k) body).serveChannels := by
    refine congrArg Host.Outcome.next ((answerFrame_asked (kind := 5) hask hb rfl).trans ?_)
    rw [State.heard_of_not_enrolled false hnot]
    rfl
  rw [hexec]
  unfold State.described
  rw [State.setChannel_printers, hp]
  dsimp only
  refine ⟨fun hv => ⟨fun ho => ?_, fun ho => ?_⟩, fun hv => ⟨fun ho => ?_, fun ho => ?_⟩⟩
  · rw [if_pos hv, State.answerEnrolment_waiting (by exact ho)]
    rfl
  · rw [if_pos hv, State.answerEnrolment_gone (by exact ho)]
    rfl
  · rw [if_neg (by simp [hv]), State.failEnrolment, State.answerEnrolment_waiting (by exact ho)]
    rfl
  · rw [if_neg (by simp [hv]), State.failEnrolment, State.answerEnrolment_gone (by exact ho)]
    rfl

/-! ### The descriptor (R8 to R12) -/

theorem durationUnit_eq {u : Nat} (h : u < 4) :
    durationUnit u = if u = 0 then 1 else if u = 1 then 8 else if u = 2 then 64 else 512 := by
  interval_cases u <;> rfl

theorem durationLimit_fields {u c st z : Nat} (hu : u < 4) (hc : c < 32) (hs : st < 8) :
    durationLimit (u + 4 * c + 128 * st + 1024 * z) = (c + 1) * durationUnit u * (st + 1) := by
  have h1 : (u + 4 * c + 128 * st + 1024 * z) / 4 % 32 = c := by omega
  have h2 : (u + 4 * c + 128 * st + 1024 * z) % 4 = u := by omega
  have h3 : (u + 4 * c + 128 * st + 1024 * z) / 128 % 8 = st := by omega
  rw [durationLimit, h1, h2, h3]

theorem answerUnit_eq {u : Nat} (h : u < 4) :
    answerUnit u = if u = 0 then 10 else if u = 1 then 100 else if u = 2 then 1000 else 4000 := by
  interval_cases u <;> rfl

theorem descriptorValid_iff {d : List Byte} : descriptorValid d = true ↔
    d.length = 32 ∧ u8 d 0 = 1 ∧ 1 ≤ u8 d 2 ∧ u8 d 2 ≤ 5 ∧ u8 d 30 = 0 ∧ u8 d 31 = 0
      ∧ ∀ i, i < u8 d 2 → u8 d (4 + 3 * i) % 4 ≠ 3 ∧ u16 d (5 + 3 * i) ≠ 0 := by
  have entries : ((List.range (u8 d 2)).all fun i => decide (entryKind d i ≠ 3) && decide (entryYield d i ≠ 0)) = true
      ↔ ∀ i, i < u8 d 2 → u8 d (4 + 3 * i) % 4 ≠ 3 ∧ u16 d (5 + 3 * i) ≠ 0 := by
    rw [List.all_eq_true]
    refine forall_congr' fun i => imp_congr List.mem_range ?_
    rw [Bool.and_eq_true]
    exact and_congr decide_eq_true_iff decide_eq_true_iff
  simp only [descriptorValid, Bool.and_eq_true, entries, decide_eq_true_eq, and_assoc]
  tauto

theorem slotsOf_get {d : List Byte} {i : Nat} (h : i < u8 d 2) : (slotsOf d)[i]? = some (slotOfEntry d i) := by
  simp [slotsOf, h]

/-- Settles O27, by the equations of the decoder's fields. -/
theorem descriptorDecodes : Obligations.DescriptorDecodes := by
  refine ⟨fun u c st z hu hc hs => ?_, fun d => ⟨rfl, rfl, rfl, rfl, ?_, fun u c z hu hc h => ?_, rfl, rfl, rfl, rfl, rfl⟩,
    fun d => descriptorValid_iff, fun d i h => ⟨_, slotsOf_get h, rfl, rfl, rfl, fun h => ?_, fun h => ?_, fun h => ?_,
      rfl, rfl, rfl, rfl, rfl, rfl, rfl⟩, fun d => ?_⟩
  · rw [durationLimit_fields hu hc hs, durationUnit_eq hu]
  · rfl
  · have h1 : u8 d 25 / 4 % 16 = c := by omega
    have h2 : u8 d 25 % 4 = u := by omega
    rw [descriptorOf, h1, h2, answerUnit_eq hu]
  · simp only [slotOfEntry, entryKind, h, slotKindOf]
  · simp only [slotOfEntry, entryKind, h, slotKindOf]
  · simp only [slotOfEntry, entryKind, h, slotKindOf]
  · simp [slotsOf]

/-! ### Service state, removal and sharing (R16 to R19) -/

theorem workDisablePrinter_eq (he : s.printers.rd p = .enrolled e) (hv : e.service = .inService) :
    workDisablePrinter p s = accept [] ((s.setEnrolled p { e with
      service := if e.activeJob = none then .disabled else .draining }).endSession p .outOfService) := by
  simp only [workDisablePrinter, State.enrolled_eq_some.mpr he, hv]
  cases e.activeJob <;> rfl

/-- Settles O28, by the work of each request at each service state. -/
theorem printersAreDisabledAndEnabled : Obligations.PrintersAreDisabledAndEnabled := by
  refine fun s port tag body p hl hp => ⟨fun h => ⟨fun e he hv => ?_, fun e he hv => ?_, fun he => ?_⟩,
    fun h => ⟨fun e he => ?_, fun he => ?_⟩⟩
  · exact exec_accepted_serving (r := .disablePrinter) h ((onPrinter_named hl hp).trans (workDisablePrinter_eq he hv))
  · refine exec_accepted_serving (r := .disablePrinter) h ((onPrinter_named hl hp).trans ?_)
    simp only [workDisablePrinter, State.begun_enrolled, State.enrolled_eq_some.mpr he]
  · refine exec_refused_serving (r := .disablePrinter) h ((onPrinter_named hl hp).trans ?_)
    simp only [workDisablePrinter, State.begun_enrolled, he]
  · refine exec_accepted (r := .enablePrinter) h ((onPrinter_named hl hp).trans ?_)
    simp only [workEnablePrinter, State.begun_enrolled, State.enrolled_eq_some.mpr he]
    rfl
  · refine exec_refused (r := .enablePrinter) h ((onPrinter_named hl hp).trans ?_)
    simp only [workEnablePrinter, State.begun_enrolled, he]

end Sys2Proof.Machine
end


section
/-! SUPPORT. Printers removed and shared, and channels reset. -/

namespace Sys2Proof.Machine

variable {s t u v : State} {port n : PortNo} {tag : Byte} {body b : List Byte} {r : Request} {p q : PrinterNo}
  {e : Enrolled} {sh : Sharing} {c : ChannelNo} {k : PositionNo} {h : Handle} {j : Job} {cam : Bool}

/-! ### REMOVE PRINTER (R19, R142) -/

theorem State.freeCallouts_lineFollows (p : PrinterNo) (cls : CondClass) : (s.freeCallouts p).LineFollows cls := by
  cases cls with
  | user => exact ((State.setCallout_lineFollows _ _ _).setCallout _ _ _).setCallout _ _ _
  | supply => exact (State.setCallout_lineFollows _ _ _).setCallout _ _ _
  | service => exact State.setCallout_lineFollows _ _ _

theorem calloutPrinter_eq_iff {n : CalloutNo} : calloutPrinter n = p ↔ n.val / 3 = p.val := by
  rw [Fin.ext_iff, calloutPrinter]

theorem State.freeCallouts_rd (p : PrinterNo) (n : CalloutNo) :
    (s.freeCallouts p).callouts.rd n = if n.val / 3 = p.val then none else s.callouts.rd n := by
  simp only [State.freeCallouts, State.setCallout_callouts, Table.rd_wr]
  by_cases hn : calloutPrinter n = p
  · rw [if_pos (calloutPrinter_eq_iff.mp hn)]
    have hno : calloutNo p (calloutClass n) = n := hn ▸ calloutNo_printer_class n
    cases hc : calloutClass n <;> rw [hc] at hno <;> simp [hno]
  · have hne (cls : CondClass) : calloutNo p cls ≠ n := fun e => hn (e ▸ calloutPrinter_calloutNo)
    rw [if_neg (fun e => hn (calloutPrinter_eq_iff.mpr e)), if_neg (hne _), if_neg (hne _), if_neg (hne _)]

theorem State.reordersRemoved_eq (p : PrinterNo) : s.reordersRemoved p = { s with
    reorders := (s.reorders.filter fun r => !(decide (r.printer = p) && !r.state.isOpen)).map fun r =>
      if r.printer = p then { r with state := .cancelled } else r
    ports := (if ∃ r ∈ s.reorders, r.printer = p ∧ r.state.isOpen = true
      then s.raise .orderClosed toSupplies else s).ports } := by
  have hany : (s.reorders.any fun r => decide (r.printer = p) && r.state.isOpen) = true
      ↔ ∃ r ∈ s.reorders, r.printer = p ∧ r.state.isOpen = true := by simp
  unfold State.reordersRemoved
  dsimp only
  by_cases hc : ∃ r ∈ s.reorders, r.printer = p ∧ r.state.isOpen = true
  · rw [if_pos (hany.mpr hc), if_pos hc]
    rfl
  · rw [if_neg (fun h => hc (hany.mp h)), if_neg hc]

/-- All that a removed printer leaves behind is cleared (R19, R142). -/
theorem State.removed_eq (p : PrinterNo) :
    (((s.freeCallouts p).reordersRemoved p).setPosition p Position.clear).setPrinter p .absent = { s with
      printers := s.printers.wr p .absent
      positions := s.positions.wr p Position.clear
      callouts := (s.freeCallouts p).callouts, lines := (s.freeCallouts p).lines
      reorders := (s.reorders.filter fun r => !(decide (r.printer = p) && !r.state.isOpen)).map fun r =>
        if r.printer = p then { r with state := .cancelled } else r
      ports := (if ∃ r ∈ s.reorders, r.printer = p ∧ r.state.isOpen = true
        then s.raise .orderClosed toSupplies else s).ports } := by
  have hfree : s.freeCallouts p = { s with
    callouts := (s.freeCallouts p).callouts, lines := (s.freeCallouts p).lines } := rfl
  generalize (s.freeCallouts p).callouts = callouts, (s.freeCallouts p).lines = lines at hfree
  rw [hfree, State.reordersRemoved_eq]
  by_cases hc : ∃ r ∈ s.reorders, r.printer = p ∧ r.state.isOpen = true
  · rw [if_pos hc, if_pos hc]
    rfl
  · rw [if_neg hc, if_neg hc]
    rfl

theorem workRemovePrinter_eq (he : s.printers.rd p = .enrolled e) (hd : e.service = .disabled) :
    workRemovePrinter p s = accept []
      ((((s.freeCallouts p).reordersRemoved p).setPosition p Position.clear).setPrinter p .absent) := by
  simp only [workRemovePrinter, State.enrolled_eq_some.mpr he, hd]

/-! ### SET SHARING (R18) -/

theorem workSetSharing_eq (hl : body.length = 4) (hp : u8 body 0 = p.val) (hs : sharingAt body 1 = some sh) :
    workSetSharing body s = if s.sharingDefined sh = false then refuse .noSuch s
      else ((s.enrolled p).map fun e => accept [] ((s.setEnrolled p { e with sharing := sh }).endLostAccess p sh)).getD
        (refuse .wrongState s) := by
  simp only [workSetSharing, hl, ne_eq, not_true, if_false, numberBelow_of_eq hp, hs, Bool.not_eq_true']
  cases s.enrolled p <;> rfl

theorem State.endLostAccess_stays (h : ∀ x, s.sessions.rd p = some x → sh.gives x.account.tenant = true) :
    s.endLostAccess p sh = s := by
  unfold State.endLostAccess
  split
  · next x hx => rw [if_pos (h x hx)]
  · rfl

theorem State.endLostAccess_ends {x : Session} (hx : s.sessions.rd p = some x) (h : sh.gives x.account.tenant = false) :
    s.endLostAccess p sh = s.endSession p .noAccess := by
  simp [State.endLostAccess, hx, h]

/-- Settles O29, by `State.removed_eq` and the sharing that is replaced. -/
theorem printerIsRemovedAndShared : Obligations.PrinterIsRemovedAndShared := by
  refine ⟨fun s port tag body p e h hl hp he => ⟨fun hd => ?_, fun hd => ?_⟩,
    fun s port tag body p sh h hl hp hs => ⟨fun hn e he => ⟨fun hx => ?_, fun x hx hg => ?_⟩, fun hn he => ?_, fun hn => ?_⟩⟩
  · refine ⟨_, exec_accepted (r := .removePrinter) h ((onPrinter_named hl hp).trans (workRemovePrinter_eq he hd)), ?_, ?_,
      fun cls => ?_⟩
    · rw [State.removed_eq]
      by_cases hc : ∃ r ∈ s.reorders, r.printer = p ∧ r.state.isOpen = true
      · simp only [State.begun_reorders, hc, if_true]
        rfl
      · simp only [State.begun_reorders, hc, if_false]
        rfl
    · rw [State.removed_eq]
      exact State.freeCallouts_rd (s := s.begun port .removePrinter tag) p
    · rw [State.removed_eq]
      exact State.freeCallouts_lineFollows (s := s.begun port .removePrinter tag) p cls
  · refine exec_refused (r := .removePrinter) h ((onPrinter_named hl hp).trans ?_)
    simp only [workRemovePrinter, State.begun_enrolled, State.enrolled_eq_some.mpr he]
  · have hw := workSetSharing_eq (s := s.begun port .setSharing tag) hl hp hs
    rw [if_neg (by simp [State.sharingDefined_of_forall hn]), State.begun_enrolled, State.enrolled_eq_some.mpr he] at hw
    rw [Option.map_some, Option.getD_some, State.endLostAccess_stays (s := (s.begun port .setSharing tag).setEnrolled p _) hx] at hw
    exact exec_accepted_serving (r := .setSharing) h hw
  · have hw := workSetSharing_eq (s := s.begun port .setSharing tag) hl hp hs
    rw [if_neg (by simp [State.sharingDefined_of_forall hn]), State.begun_enrolled, State.enrolled_eq_some.mpr he] at hw
    rw [Option.map_some, Option.getD_some, State.endLostAccess_ends (s := (s.begun port .setSharing tag).setEnrolled p _) hx hg] at hw
    exact exec_accepted_serving (r := .setSharing) h hw
  · have hw := workSetSharing_eq (s := s.begun port .setSharing tag) hl hp hs
    rw [if_neg (by simp [State.sharingDefined_of_forall hn]), State.begun_enrolled, he] at hw
    exact exec_refused_serving (r := .setSharing) h hw
  · have hw := workSetSharing_eq (s := s.begun port .setSharing tag) hl hp hs
    rw [if_pos (by rw [State.begun_sharingDefined, State.sharingDefined_eq_false hn])] at hw
    exact exec_refused_serving (r := .setSharing) h hw

end Sys2Proof.Machine
end


section
/-! SUPPORT. RESET CHANNEL (R37): what it does at one printer, and at the printers of a channel one after another. -/

namespace Sys2Proof.Machine

variable {s t u v : State} {port : PortNo} {tag : Byte} {body : List Byte} {p q : PrinterNo} {e : Enrolled}
  {c : ChannelNo} {h : Handle} {j : Job} {cam : Bool} {l m : List PrinterNo} {n : RecordNo}

theorem State.activeJob_of_enrolled (he : s.printers.rd p = .enrolled e) : s.activeJob p = e.activeJob := by
  rw [State.activeJob, State.enrolled_eq_some.mpr he]
  rfl

theorem State.activeJob_of_not_enrolled (hn : s.enrolled p = none) : s.activeJob p = none := by
  rw [State.activeJob, hn]
  rfl

/-! ### The re-hold of a GRANTED active job -/

/-- A re-hold, but for the tenant's record, which need not be DEFINED (R66). -/
theorem State.rehold_shape (hj : s.job h = some j) (ha : j.state.active = some (p, cam))
    (he : s.printers.rd p = .enrolled e) : ∃ as ts ps, s.rehold h p = some { s with
      jobs := s.jobs.wr h.record ⟨h.generation, some { j with
        state := .held, reserved := 0, holdMinutes := s.holdTime j.owner.tenant }⟩
      accounts := as, tenants := ts, printers := s.printers.wr p (.enrolled e.left), ports := ps }
    ∧ ∀ v, ((ts.rd v).map (·.holdHours)).getD 0 * 60 = s.holdTime v := by
  cases hx : s.tenants.rd j.owner.tenant with
  | some x =>
    have hhold : s.holdTime j.owner.tenant = x.holdHours * 60 := by rw [State.holdTime, hx]; rfl
    rw [hhold]
    refine ⟨_, _, _, State.rehold_eq hj ha he hx, fun v => ?_⟩
    rw [Table.rd_wr]
    split
    · next hv => rw [← hv, hhold]; rfl
    · rfl
  | none =>
    refine ⟨((s.modAccount j.owner fun a => { a with reserved := a.reserved - j.reserved }).countHeld j.owner).accounts,
      s.tenants, ((s.raiseLeft e).raise .jobReheld (toTenant j.owner.tenant)).ports, ?_, fun v => rfl⟩
    simp only [State.rehold, State.activeAt_eq_some.mpr ⟨hj, cam, ha⟩, State.giveBack]
    rw [State.modTenant_of_none (s := s.modAccount _ _) hx]
    rw [State.leavePrinter_eq (e := e)]
    on_goal 2 => exact he
    simp only [State.setJob, State.modAccount_jobs, State.job_eq_some.mp hj]
    unfold State.raiseLeft
    split <;> rfl

/-- A GRANTED active job is re-held, and otherwise nothing happens (R37 step 3). -/
theorem State.reholdGranted_cases (p : PrinterNo) :
    (∃ h j cam timer, s.activeJob p = some h ∧ s.job h = some j ∧ j.state = .granted p cam timer
        ∧ s.rehold h p = some (s.reholdGranted p))
      ∨ (s.reholdGranted p = s
        ∧ ∀ h j cam timer, s.activeJob p = some h → s.job h = some j → j.state ≠ .granted p cam timer) := by
  unfold State.reholdGranted
  cases ha : s.activeJob p with
  | none => exact .inr ⟨rfl, nofun⟩
  | some h =>
    cases hg : s.grantedAt h p with
    | none =>
      refine .inr ⟨by simp only [hg], fun g j cam timer hh hj => ?_⟩
      cases hh
      exact State.grantedAt_eq_none.mp hg j cam timer hj
    | some g =>
      obtain ⟨j, cam, timer⟩ := g
      obtain ⟨hj, hs⟩ := State.grantedAt_eq_some.mp hg
      refine .inl ⟨h, j, cam, timer, rfl, hj, hs, ?_⟩
      simp only [hg]
      unfold State.rehold
      rw [State.activeAt_eq_some.mpr ⟨hj, cam, by rw [hs]; rfl⟩]
      rfl

theorem State.reholdGranted_of_none (hn : s.activeJob p = none) : s.reholdGranted p = s := by
  simp only [State.reholdGranted, hn]

/-- The two outcomes of a printer's first step determine the state that it leaves. -/
theorem State.reholdGranted_eq
    (h : (∃ h j cam timer, s.activeJob p = some h ∧ s.job h = some j ∧ j.state = .granted p cam timer
        ∧ s.rehold h p = some v)
      ∨ v = s ∧ ∀ h j cam timer, s.activeJob p = some h → s.job h = some j → j.state ≠ .granted p cam timer) :
    s.reholdGranted p = v := by
  obtain ⟨h', j', cam', timer', ha', hj', hs', hr'⟩ | ⟨he', hn'⟩ := s.reholdGranted_cases p
  · obtain ⟨g, i, _, _, ha, hi, hs, hr⟩ | ⟨-, hn⟩ := h
    · rw [ha] at ha'
      cases ha'
      exact Option.some.inj (hr'.symm.trans hr)
    · exact absurd hs' (hn h' j' cam' timer' ha' hj')
  · obtain ⟨g, i, _, _, ha, hi, hs, hr⟩ | ⟨rfl, -⟩ := h
    · exact absurd hs (hn' g i _ _ ha hi)
    · exact he'

/-! ### The end of a session without a mark -/

theorem State.endSession_channelReset_positions (p : PrinterNo) :
    (s.endSession p .channelReset).positions = s.positions := by
  cases hx : s.sessions.rd p with
  | none => rw [State.endSession_of_none hx]
  | some x => rw [State.endSession_of_some hx]; rfl

theorem State.endSession_channelReset (p : PrinterNo) : ∃ ss as, s.endSession p .channelReset = { s with
    sessions := ss, accounts := as } := by
  cases hx : s.sessions.rd p with
  | none => exact ⟨_, _, State.endSession_of_none hx⟩
  | some x => exact ⟨_, _, (State.endSession_of_some hx).trans rfl⟩

/-! ### What resetting printers leaves (R37 steps 3 to 6) -/

/-- What the steps at some printers leave to the rest of the state: other printers, their positions and sessions stay,
and so do the jobs not GRANTED at one of them, and every tenant's hold time. -/
structure State.ResetAt (l : List PrinterNo) (s t : State) : Prop where
  frame : t = { s with
    positions := t.positions, printers := t.printers, sessions := t.sessions, jobs := t.jobs
    accounts := t.accounts, tenants := t.tenants, ports := t.ports }
  printers : ∀ q, q ∉ l → t.printers.rd q = s.printers.rd q
  positions : ∀ q, q ∉ l → t.positions.rd q = s.positions.rd q
  sessions : ∀ q, q ∉ l → t.sessions.rd q = s.sessions.rd q
  jobs : ∀ n j, s.jobAt n = some j → (∀ q ∈ l, ∀ cam timer, j.state ≠ .granted q cam timer) →
    t.jobs.rd n = s.jobs.rd n
  granted : ∀ n j q cam timer, t.jobAt n = some j → j.state = .granted q cam timer → t.jobs.rd n = s.jobs.rd n
  holdTime : ∀ v, t.holdTime v = s.holdTime v

theorem State.ResetAt.nil : State.ResetAt [] s s :=
  ⟨rfl, fun _ _ => rfl, fun _ _ => rfl, fun _ _ => rfl, fun _ _ _ _ => rfl, fun _ _ _ _ _ _ _ => rfl, fun _ => rfl⟩

theorem State.jobAt_congr (h : t.jobs.rd n = s.jobs.rd n) : t.jobAt n = s.jobAt n := by
  rw [State.jobAt, State.jobAt, h]

theorem State.job_congr (hr : t.jobs.rd h.record = s.jobs.rd h.record) : t.job h = s.job h := by
  rw [State.job, State.job, hr]

theorem State.ResetAt.append (h : State.ResetAt l s t) (h' : State.ResetAt m t u) : State.ResetAt (l ++ m) s u where
  frame := by
    rw [h'.frame, h.frame]
  printers q hq := (h'.printers q fun hm => hq (List.mem_append_right l hm)).trans
    (h.printers q fun hm => hq (List.mem_append_left m hm))
  positions q hq := (h'.positions q fun hm => hq (List.mem_append_right l hm)).trans
    (h.positions q fun hm => hq (List.mem_append_left m hm))
  sessions q hq := (h'.sessions q fun hm => hq (List.mem_append_right l hm)).trans
    (h.sessions q fun hm => hq (List.mem_append_left m hm))
  jobs n j hj hn := by
    have ht := h.jobs n j hj fun q hq => hn q (List.mem_append_left m hq)
    exact (h'.jobs n j ((State.jobAt_congr ht).trans hj) fun q hq => hn q (List.mem_append_right l hq)).trans ht
  granted n j q cam timer hj hs := by
    have hu := h'.granted n j q cam timer hj hs
    exact hu.trans (h.granted n j q cam timer ((State.jobAt_congr hu).symm.trans hj) hs)
  holdTime v := (h'.holdTime v).trans (h.holdTime v)

theorem State.reholdGranted_resetAt (p : PrinterNo) : State.ResetAt [p] s (s.reholdGranted p) := by
  obtain ⟨h, j, cam, timer, ha, hj, hs, hr⟩ | ⟨hn, -⟩ := s.reholdGranted_cases p
  · cases hp : s.enrolled p with
    | none => rw [State.activeJob_of_not_enrolled hp] at ha; cases ha
    | some e =>
      obtain ⟨as, ts, ps, hr', hhold⟩ := State.rehold_shape hj (cam := cam) (by rw [hs]; rfl) (State.enrolled_eq_some.mp hp)
      rw [Option.some.inj (hr.symm.trans hr')]
      refine ⟨rfl, fun q hq => ?_, fun q _ => rfl, fun q _ => rfl, fun n i hi hn => ?_, fun n i q cam' timer' hi hs' => ?_,
        hhold⟩
      · exact Table.rd_wr_of_ne _ _ (fun e => hq (by simp [e]))
      · refine Table.rd_wr_of_ne _ _ fun e => ?_
        rw [← e, State.jobAt_of_job hj] at hi
        cases hi
        exact hn p (by simp) cam timer hs
      · refine Table.rd_wr_of_ne _ _ fun e => ?_
        subst e
        simp only [State.jobAt, Table.rd_wr_self, Option.some.injEq] at hi
        subst hi
        cases hs'
  · rw [hn]
    exact ⟨rfl, fun _ _ => rfl, fun _ _ => rfl, fun _ _ => rfl, fun _ _ _ _ => rfl, fun _ _ _ _ _ _ _ => rfl, fun _ => rfl⟩

theorem State.endSession_resetAt (p : PrinterNo) : State.ResetAt [p] s (s.endSession p .channelReset) := by
  have hsess (q : PrinterNo) (hq : q ∉ [p]) :
      (s.endSession p .channelReset).sessions.rd q = s.sessions.rd q := by
    rw [State.endSession_sessions, if_neg (fun e => hq (by simp [e]))]
  obtain ⟨ss, as, he⟩ := s.endSession_channelReset p
  rw [he] at hsess ⊢
  exact ⟨rfl, fun _ _ => rfl, fun _ _ => rfl, hsess, fun _ _ _ _ => rfl, fun _ _ _ _ _ _ _ => rfl, fun _ => rfl⟩

theorem State.resetAdapter_resetAt (p : PrinterNo) : State.ResetAt [p] s (s.resetAdapter p) := by
  have other {q : PrinterNo} (hq : q ∉ [p]) : p ≠ q := fun e => hq (by simp [e])
  unfold State.resetAdapter
  split
  · exact ⟨rfl, fun _ _ => rfl, fun _ _ => rfl, fun _ _ => rfl, fun _ _ _ _ => rfl, fun _ _ _ _ _ _ _ => rfl, fun _ => rfl⟩
  · next who _ =>
    obtain ⟨ps, h⟩ := (s.setPrinter p .absent).answerEnrolment_frame who (.enrolFailed .channelReset) []
    rw [State.failEnrolment, h]
    exact ⟨rfl, fun q hq => Table.rd_wr_of_ne _ _ (other hq), fun _ _ => rfl, fun _ _ => rfl, fun _ _ _ _ => rfl,
      fun _ _ _ _ _ _ _ => rfl, fun _ => rfl⟩
  · exact ⟨rfl, fun _ _ => rfl, fun q hq => Table.rd_wr_of_ne _ _ (other hq), fun _ _ => rfl, fun _ _ _ _ => rfl,
      fun _ _ _ _ _ _ _ => rfl, fun _ => rfl⟩

theorem State.ResetAt.same (h : State.ResetAt [p] s t) (h' : State.ResetAt [p] t u) : State.ResetAt [p] s u := by
  have hmem {q : PrinterNo} : q ∉ [p] → q ∉ [p] ++ [p] := by simp
  have happ := h.append h'
  refine ⟨happ.frame, fun q hq => happ.printers q (hmem hq), fun q hq => happ.positions q (hmem hq),
    fun q hq => happ.sessions q (hmem hq), fun n j hj hn => happ.jobs n j hj fun q hq => hn q ?_, happ.granted, happ.holdTime⟩
  simpa using hq

theorem State.resetPrinter_resetAt (p : PrinterNo) : State.ResetAt [p] s (s.resetPrinter p) := by
  rw [State.resetPrinter_eq]
  exact ((State.reholdGranted_resetAt p).same (State.endSession_resetAt p)).same (State.resetAdapter_resetAt p)

theorem State.resetPrinters_resetAt (l : List PrinterNo) : State.ResetAt l s (l.foldl State.resetPrinter s) := by
  induction l generalizing s with
  | nil => exact .nil
  | cons p l ih => exact (State.resetPrinter_resetAt p).append ih

/-! ### What resetting a printer does at it -/

theorem State.resetPrinter_of_enrolled (he : (s.enrolled p).isSome = true) (hv : s.reholdGranted p = v) :
    s.resetPrinter p = { v.endSession p .channelReset with
      positions := v.positions.wr p { v.positions.rd p with resync := true, probe := true } } := by
  have hp : (v.enrolled p).isSome = true := by
    obtain ⟨h, j, cam, timer, -, hj, hs, hr⟩ | ⟨hn, -⟩ := s.reholdGranted_cases p
    · obtain ⟨e, he⟩ := Option.isSome_iff_exists.mp he
      obtain ⟨as, ts, ps, hr', -⟩ := State.rehold_shape hj (cam := cam) (by rw [hs]; rfl) (State.enrolled_eq_some.mp he)
      rw [← hv, Option.some.inj (hr.symm.trans hr')]
      simp [State.enrolled, Printer.enrolled?]
    · rw [← hv, hn]
      exact he
  obtain ⟨e, he'⟩ := Option.isSome_iff_exists.mp hp
  obtain ⟨ss, as, hend⟩ := v.endSession_channelReset p
  rw [State.resetPrinter_eq, hv, hend]
  simp only [State.resetAdapter, State.enrolled_eq_some.mp he']
  rfl

theorem State.resetPrinter_of_enrolling {sh : Sharing} {who : Option (PortNo × Byte)}
    (hp : s.printers.rd p = .enrolling sh who) :
    s.resetPrinter p = (s.endSession p .channelReset).failEnrolment p who .channelReset := by
  obtain ⟨ss, as, hend⟩ := s.endSession_channelReset p
  rw [State.resetPrinter_eq, State.reholdGranted_of_none, hend]
  · simp only [State.resetAdapter, hp]
  · rw [State.activeJob, State.enrolled, hp]
    rfl

theorem State.resetPrinter_of_absent (hp : s.printers.rd p = .absent) :
    s.resetPrinter p = s.endSession p .channelReset := by
  obtain ⟨ss, as, hend⟩ := s.endSession_channelReset p
  rw [State.resetPrinter_eq, State.reholdGranted_of_none, hend]
  · simp only [State.resetAdapter, hp]
  · rw [State.activeJob, State.enrolled, hp]
    rfl

theorem State.resetPrinter_session (p : PrinterNo) : (s.resetPrinter p).sessions.rd p = none := by
  have hend : ((s.reholdGranted p).endSession p .channelReset).sessions.rd p = none := by
    rw [State.endSession_sessions, if_pos rfl]
  rw [State.resetPrinter_eq]
  generalize (s.reholdGranted p).endSession p .channelReset = v at hend
  unfold State.resetAdapter
  split
  · exact hend
  · next who _ =>
    obtain ⟨ps, h⟩ := (v.setPrinter p .absent).answerEnrolment_frame who (.enrolFailed .channelReset) []
    rw [State.failEnrolment, h]
    exact hend
  · exact hend

/-- A printer that is not enrolled is ABSENT afterwards, its position as it was. -/
theorem State.resetPrinter_unenrolled (hn : s.enrolled p = none) :
    (s.resetPrinter p).printers.rd p = .absent ∧ (s.resetPrinter p).positions.rd p = s.positions.rd p := by
  obtain ⟨ss, as, hend⟩ := s.endSession_channelReset p
  cases hp : s.printers.rd p with
  | absent =>
    rw [State.resetPrinter_of_absent hp, hend]
    exact ⟨hp, rfl⟩
  | enrolling sh who =>
    rw [State.resetPrinter_of_enrolling hp, hend, State.failEnrolment]
    generalize hv : State.setPrinter _ p .absent = v
    obtain ⟨ps, h⟩ := v.answerEnrolment_frame who (.enrolFailed .channelReset) []
    rw [h, ← hv]
    exact ⟨Table.rd_wr_self _ _ _, rfl⟩
  | enrolled e =>
    rw [State.enrolled_eq_some.mpr hp] at hn
    cases hn

theorem State.resetPrinter_position (he : s.printers.rd p = .enrolled e) :
    (s.resetPrinter p).positions.rd p = { s.positions.rd p with resync := true, probe := true } := by
  have hpos : (s.reholdGranted p).positions = s.positions := by
    obtain ⟨h, j, cam, timer, -, -, -, hr⟩ | ⟨hn, -⟩ := s.reholdGranted_cases p
    · obtain ⟨_, _, _, _, _, h⟩ := s.rehold_frame hr
      rw [h]
    · rw [hn]
  rw [State.resetPrinter_of_enrolled (by rw [State.enrolled_eq_some.mpr he]; rfl) rfl, hpos, Table.rd_wr_self]

/-- Without a GRANTED active job the printer's record stays as it is. -/
theorem State.resetPrinter_printer_of_not_granted (he : s.printers.rd p = .enrolled e)
    (hn : ∀ h j cam timer, e.activeJob = some h → s.job h = some j → j.state ≠ .granted p cam timer) :
    (s.resetPrinter p).printers.rd p = .enrolled e := by
  rw [← State.activeJob_of_enrolled he] at hn
  obtain ⟨ss, as, hend⟩ := s.endSession_channelReset p
  rw [State.resetPrinter_of_enrolled (by rw [State.enrolled_eq_some.mpr he]; rfl)
    (State.reholdGranted_eq (.inr ⟨rfl, hn⟩)), hend]
  exact he

/-- A GRANTED active job leaves the printer and is HELD again. -/
theorem State.resetPrinter_of_granted {timer : Option Nat} (he : s.printers.rd p = .enrolled e)
    (ha : e.activeJob = some h) (hj : s.job h = some j) (hs : j.state = .granted p cam timer) :
    (s.resetPrinter p).printers.rd p = .enrolled e.left ∧ (s.resetPrinter p).job h = some { j with
      state := .held, reserved := 0, holdMinutes := s.holdTime j.owner.tenant } := by
  obtain ⟨v, hr, hprinter, hjob⟩ : ∃ v, s.rehold h p = some v ∧ v.printers.rd p = .enrolled e.left
      ∧ v.job h = some { j with state := .held, reserved := 0, holdMinutes := s.holdTime j.owner.tenant } := by
    obtain ⟨as, ts, ps, hr, -⟩ := State.rehold_shape hj (cam := cam) (by rw [hs]; rfl) he
    exact ⟨_, hr, Table.rd_wr_self _ _ _, State.job_eq_some.mpr (Table.rd_wr_self _ _ _)⟩
  rw [State.resetPrinter_of_enrolled (by rw [State.enrolled_eq_some.mpr he]; rfl)
    (State.reholdGranted_eq (.inl ⟨h, j, cam, timer, (State.activeJob_of_enrolled he).trans ha, hj, hs, hr⟩))]
  obtain ⟨ss, as', hend⟩ := v.endSession_channelReset p
  rw [hend]
  exact ⟨hprinter, hjob⟩

/-! ### A channel's printers, each in its turn -/

/-- A printer of the list is met once: what the others' steps do passes it by. -/
theorem State.resetPrinters_split (hnd : l.Nodup) (hp : p ∈ l) : ∃ (before after : List PrinterNo) (u : State),
    p ∉ before ∧ p ∉ after ∧ State.ResetAt before s u
      ∧ State.ResetAt after (u.resetPrinter p) (l.foldl State.resetPrinter s) := by
  obtain ⟨before, after, rfl⟩ := List.append_of_mem hp
  rw [List.nodup_append] at hnd
  obtain ⟨-, hafter, hdis⟩ := hnd
  refine ⟨before, after, before.foldl State.resetPrinter s, fun h => hdis p h p (by simp) rfl,
    (List.nodup_cons.mp hafter).1, State.resetPrinters_resetAt before, ?_⟩
  rw [List.foldl_append, List.foldl_cons]
  exact State.resetPrinters_resetAt after

theorem State.resetPrinters_session (hnd : l.Nodup) (hp : p ∈ l) :
    (l.foldl State.resetPrinter s).sessions.rd p = none := by
  obtain ⟨_, _, u, -, ha, -, h2⟩ := State.resetPrinters_split (s := s) hnd hp
  rw [h2.sessions p ha, State.resetPrinter_session]

theorem State.resetPrinters_unenrolled (hnd : l.Nodup) (hp : p ∈ l) (hn : s.enrolled p = none) :
    (l.foldl State.resetPrinter s).printers.rd p = .absent
      ∧ (l.foldl State.resetPrinter s).positions.rd p = s.positions.rd p := by
  obtain ⟨_, _, u, hb, ha, h1, h2⟩ := State.resetPrinters_split (s := s) hnd hp
  have hu : u.enrolled p = none := by rw [State.enrolled, h1.printers p hb]; exact hn
  obtain ⟨hprinter, hpos⟩ := State.resetPrinter_unenrolled hu
  exact ⟨(h2.printers p ha).trans hprinter, (h2.positions p ha).trans (hpos.trans (h1.positions p hb))⟩

theorem State.resetPrinters_position (hnd : l.Nodup) (hp : p ∈ l) (he : s.printers.rd p = .enrolled e) :
    (l.foldl State.resetPrinter s).positions.rd p = { s.positions.rd p with resync := true, probe := true } := by
  obtain ⟨_, _, u, hb, ha, h1, h2⟩ := State.resetPrinters_split (s := s) hnd hp
  rw [h2.positions p ha, State.resetPrinter_position ((h1.printers p hb).trans he), h1.positions p hb]

theorem State.resetPrinters_not_granted (hnd : l.Nodup) (hp : p ∈ l) (he : s.printers.rd p = .enrolled e)
    (hn : ∀ h j cam timer, e.activeJob = some h → s.job h = some j → j.state ≠ .granted p cam timer) :
    (l.foldl State.resetPrinter s).printers.rd p = .enrolled e := by
  obtain ⟨before, _, u, hb, ha, h1, h2⟩ := State.resetPrinters_split (s := s) hnd hp
  rw [h2.printers p ha]
  refine State.resetPrinter_printer_of_not_granted ((h1.printers p hb).trans he) fun h j cam timer hact hj hs => ?_
  have hsame := h1.granted h.record j p cam timer (State.jobAt_of_job hj) hs
  exact hn h j cam timer hact ((State.job_congr hsame).symm.trans hj) hs

theorem State.resetPrinters_granted {timer : Option Nat} (hnd : l.Nodup) (hp : p ∈ l)
    (he : s.printers.rd p = .enrolled e) (hact : e.activeJob = some h) (hj : s.job h = some j)
    (hs : j.state = .granted p cam timer) :
    (l.foldl State.resetPrinter s).printers.rd p = .enrolled e.left
      ∧ (l.foldl State.resetPrinter s).job h = some { j with
        state := .held, reserved := 0, holdMinutes := s.holdTime j.owner.tenant } := by
  obtain ⟨before, after, u, hb, ha, h1, h2⟩ := State.resetPrinters_split (s := s) hnd hp
  have hju : u.job h = some j := by
    refine (State.job_congr (h1.jobs h.record j (State.jobAt_of_job hj) fun q hq cam' timer' hs' => ?_)).trans hj
    rw [hs] at hs'
    cases hs'
    exact hb hq
  obtain ⟨hprinter, hjob⟩ := State.resetPrinter_of_granted ((h1.printers p hb).trans he) hact hju hs
  rw [h1.holdTime] at hjob
  refine ⟨(h2.printers p ha).trans hprinter, (State.job_congr ?_).trans hjob⟩
  exact h2.jobs h.record _ (State.jobAt_of_job hjob) fun _ _ _ _ => nofun

/-! ### RESET CHANNEL -/

/-- A channel's printers, in the order of their positions. -/
def printersOf (c : ChannelNo) : List PrinterNo := (List.finRange 8).map (printerAt c)

theorem mem_printersOf {c : ChannelNo} : p ∈ printersOf c ↔ channelOf p = c := by
  simp only [printersOf, List.mem_map, List.mem_finRange, true_and]
  constructor
  · rintro ⟨k, rfl⟩
    exact channelOf_printerAt
  · rintro rfl
    exact ⟨⟨p.val % 8, Nat.mod_lt _ (by decide)⟩, Fin.ext (by simp only [printerAt, channelOf]; omega)⟩

theorem printerAt_mem_printersOf (k : PositionNo) : printerAt c k ∈ printersOf c :=
  mem_printersOf.mpr channelOf_printerAt

theorem printersOf_nodup : (printersOf c).Nodup :=
  (List.nodup_finRange 8).map fun _ _ h => (printerAt_inj.mp h).2

/-- The state that RESET CHANNEL's steps at the printers start from: the channel IDLE, the marks clear. -/
def State.unmarkChannel (s : State) (c : ChannelNo) : State :=
  { s with
    channels := s.channels.wr c .idle
    positions := Table.tab fun p => if channelOf p = c then (s.positions.rd p).unmarked else s.positions.rd p }

theorem State.resetChannel_eq : s.resetChannel c = (printersOf c).foldl State.resetPrinter (s.unmarkChannel c) := by
  rw [printersOf, List.foldl_map]
  rfl

theorem State.unmarkChannel_rd (k : PositionNo) :
    (s.unmarkChannel c).positions.rd (printerAt c k) = (s.positions.rd (printerAt c k)).unmarked := by
  rw [State.unmarkChannel, Table.rd_tab, if_pos channelOf_printerAt]

/-- Settles O30, by `State.resetChannel_eq`: the printers are taken one by one (`State.resetPrinters_split`). -/
theorem channelIsReset : Obligations.ChannelIsReset := by
  refine ⟨fun s port tag body c h hl hc => ?_, fun u v p hv => ⟨fun he => ?_, fun sh n tag hp ho => ?_,
    fun sh who hp ho => ?_, fun hp => ?_⟩⟩
  · have hw : workResetChannel body (s.begun port .resetChannel tag)
        = accept [] ((s.begun port .resetChannel tag).resetChannel c) := by
      simp only [workResetChannel, hl, ne_eq, not_true, if_false, numberBelow_of_eq hc]
    refine ⟨_, exec_accepted_serving (r := .resetChannel) h hw, rfl, ?_⟩
    rw [State.resetChannel_eq]
    have hframe : (s.begun port .resetChannel tag).unmarkChannel c = { s with
      channels := s.channels.wr c .idle, positions := ((s.begun port .resetChannel tag).unmarkChannel c).positions
      ports := (s.begun port .resetChannel tag).ports } := rfl
    have hpos (k : PositionNo) := State.unmarkChannel_rd (s := s.begun port .resetChannel tag) (c := c) k
    have hother (p : PrinterNo) (hp : channelOf p ≠ c) :
        ((s.begun port .resetChannel tag).unmarkChannel c).positions.rd p = s.positions.rd p := by
      rw [State.unmarkChannel, Table.rd_tab, if_neg hp]
      rfl
    generalize (s.begun port .resetChannel tag).unmarkChannel c = b at hframe hpos hother ⊢
    obtain ⟨hchannels, hprinters, hsessions, hjobs, htenants⟩ : b.channels = s.channels.wr c .idle
        ∧ b.printers = s.printers ∧ b.sessions = s.sessions ∧ b.jobs = s.jobs ∧ b.tenants = s.tenants := by
      rw [hframe]
      exact ⟨rfl, rfl, rfl, rfl, rfl⟩
    have hjob (g : Handle) : b.job g = s.job g := by rw [State.job, hjobs, State.job]
    have hreset := State.resetPrinters_resetAt (s := b) (printersOf c)
    have hat (k : PositionNo) := printerAt_mem_printersOf (c := c) k
    refine ⟨?_, fun k => ⟨fun hn => ?_, fun e he => ⟨?_, fun hn => ?_, fun g j cam timer hact hj hs => ?_⟩,
      fun sh who hp => ?_, fun hp => ?_, State.resetPrinters_session printersOf_nodup (hat k)⟩, fun p hp => ?_,
      fun n j hj hn => ?_, ?_⟩
    · rw [hreset.frame]
      exact hchannels
    · rw [(State.resetPrinters_unenrolled printersOf_nodup (hat k) (by rw [State.enrolled, hprinters]; exact hn)).2, hpos]
      rfl
    · rw [State.resetPrinters_position printersOf_nodup (hat k) (by rw [hprinters]; exact he), hpos]
      rfl
    · refine State.resetPrinters_not_granted printersOf_nodup (hat k) (by rw [hprinters]; exact he) fun g j cam timer ha hj => ?_
      exact hn g j cam timer ha ((hjob g).symm.trans hj)
    · obtain ⟨hprinter, hheld⟩ := State.resetPrinters_granted (s := b) printersOf_nodup (hat k)
        (by rw [hprinters]; exact he) hact ((hjob g).trans hj) hs
      refine ⟨hprinter, _, hheld, rfl, rfl, ?_, rfl, rfl, rfl⟩
      rw [State.holdTime, htenants, State.holdTime]
    · exact (State.resetPrinters_unenrolled printersOf_nodup (hat k)
        (by rw [State.enrolled, hprinters, hp]; rfl)).1
    · exact (State.resetPrinters_unenrolled printersOf_nodup (hat k)
        (by rw [State.enrolled, hprinters, hp]; rfl)).1
    · have hout : p ∉ printersOf c := fun hm => hp (mem_printersOf.mp hm)
      exact ⟨by rw [hreset.printers p hout, hprinters], (hreset.positions p hout).trans (hother p hp),
        by rw [hreset.sessions p hout, hsessions]⟩
    · refine (State.jobAt_congr ((hreset.jobs n j ?_ fun q _ => hn q).trans (by rw [hjobs]))).trans hj
      rw [State.jobAt, hjobs]
      exact hj
    · generalize (printersOf c).foldl State.resetPrinter b = t at hreset
      rw [hreset.frame, hframe]
  · exact State.resetPrinter_of_enrolled he (State.reholdGranted_eq hv)
  all_goals
    have hsame : v = u := (State.reholdGranted_eq hv).symm.trans
      (State.reholdGranted_of_none (State.activeJob_of_not_enrolled (by rw [State.enrolled, hp]; rfl)))
    subst hsame
    obtain ⟨ss, as, hend⟩ := v.endSession_channelReset p
  · rw [State.resetPrinter_of_enrolling hp, hend, State.failEnrolment, State.answerEnrolment_waiting (by exact ho)]
    rfl
  · rw [State.resetPrinter_of_enrolling hp, hend, State.failEnrolment]
    cases who with
    | none => rfl
    | some w =>
      rw [State.answerEnrolment_gone (by exact ho w.1 w.2 rfl)]
      rfl
  · exact State.resetPrinter_of_absent hp

end Sys2Proof.Machine
end


section
/-! SUPPORT. Fields with a selector, and the tenants they define and amend (R42, R43, R197; log 20). -/

namespace Sys2Proof.Machine

variable {s t : State} {port : PortNo} {tag : Byte} {body b : List Byte} {v : TenantNo} {x : Tenant} {i : Nat}
  {words : List Nat} {α β : Type} {val : α} {reason : Reason}

/-! ### Fields with a selector (R197) -/

theorem choiceAt_of_zero (h : u8 b i = 0) : choiceAt b i words val = some (.value val) := if_pos h

theorem choiceAt_of_one (h : u8 b i = 1) (hw : 1 ∈ words) : choiceAt b i words val = some .absent := by
  simp [choiceAt, h, hw]

theorem choiceAt_of_two (h : u8 b i = 2) (hw : 2 ∈ words) : choiceAt b i words val = some .default := by
  simp [choiceAt, h, hw]

theorem choiceAt_of_three (h : u8 b i = 3) (hw : 3 ∈ words) : choiceAt b i words val = some .noChange := by
  simp [choiceAt, h, hw]

theorem choiceAt_of_four (h : u8 b i = 4) (hw : 4 ∈ words) : choiceAt b i words val = some .all := by
  simp [choiceAt, h, hw]

theorem choiceAt_eq_none (h0 : u8 b i ≠ 0) (hw : u8 b i ∉ words) : choiceAt b i words val = none := by
  simp [choiceAt, h0, hw]

/-- A value or ABSENT (R42). -/
theorem allowanceAt_eq {w : Nat} {o : Option Nat} (h : u8 b i = 0 ∧ o = some w ∨ u8 b i = 1 ∧ o = none) :
    ∃ c, choiceAt b i [1] w = some c ∧ allowanceOf c = some o := by
  obtain ⟨h, rfl⟩ | ⟨h, rfl⟩ := h
  · exact ⟨_, choiceAt_of_zero h, rfl⟩
  · exact ⟨_, choiceAt_of_one h (by simp), rfl⟩

/-- A value, ABSENT or NO CHANGE (R43). -/
theorem allowanceAt_amended {w : Nat} (h : u8 b i ≤ 1 ∨ u8 b i = 3) :
    ∃ c, choiceAt b i [1, 3] w = some c ∧ amendedOf c allowanceOf
      = some (if u8 b i = 0 then some (some w) else if u8 b i = 1 then some none else none) := by
  obtain h | h | h : u8 b i = 0 ∨ u8 b i = 1 ∨ u8 b i = 3 := by omega
  · exact ⟨_, choiceAt_of_zero h, by simp [h, amendedOf, allowanceOf]⟩
  · exact ⟨_, choiceAt_of_one h (by simp), by simp [h, amendedOf, allowanceOf]⟩
  · exact ⟨_, choiceAt_of_three h (by simp), by simp [h, amendedOf]⟩

/-- A value or NO CHANGE (R197). -/
theorem valueAt_amended (h : u8 b i = 0 ∨ u8 b i = 3) : ∃ c, choiceAt b i [3] val = some c
    ∧ amendedOf c valueOf = some (if u8 b i = 0 then some val else none) := by
  obtain h | h := h
  · exact ⟨_, choiceAt_of_zero h, by simp [h, amendedOf, valueOf]⟩
  · exact ⟨_, choiceAt_of_three h (by simp), by simp [h, amendedOf]⟩

/-- A value that its own reader accepts, or NO CHANGE (R197). -/
theorem readAt_amended {o : Option α} {a : α} (h : u8 b i = 0 ∧ o = some a ∨ u8 b i = 3) :
    ∃ c, choiceAt b i [3] o = some c
      ∧ amendedOf c (fun c => (valueOf c).join) = some (if u8 b i = 0 then some a else none) := by
  obtain ⟨h, rfl⟩ | h := h
  · exact ⟨_, choiceAt_of_zero h, by simp [h, amendedOf, valueOf]⟩
  · exact ⟨_, choiceAt_of_three h (by simp), by simp [h, amendedOf]⟩

theorem tariffAt_eq (h0 : u8 b i ≠ 0) (h1 : u8 b (i + 1) ≠ 0) (h2 : u8 b (i + 2) ≠ 0) (h3 : u8 b (i + 3) ≠ 0) :
    tariffAt b i = some ⟨u8 b i, u8 b (i + 1), u8 b (i + 2), u8 b (i + 3)⟩ := by
  simp [tariffAt, h0, h1, h2, h3]

theorem jobLimitOf_eq {n : Nat} (h : 1 ≤ n ∧ n ≤ 1024) : jobLimitOf n = some n := if_pos h

theorem accountLimitOf_eq {n : Nat} (h : 1 ≤ n ∧ n ≤ 2048) : accountLimitOf n = some n := if_pos h

/-! ### A pool's flag (R41) -/

/-- A tenant's record written and its pool's flag brought up to date, with the event when the flag goes from clear to
set. -/
theorem State.exhaustPool_setTenant : (s.setTenant v (some x)).exhaustPool v =
    if x.poolExhausted = false ∧ reaches x.poolAllowance x.poolCharged = true
    then (s.setTenant v (some { x with poolExhausted := x.poolExhausted || reaches x.poolAllowance x.poolCharged })).raise
      .poolExhausted (toTenantAndFacilities v)
    else s.setTenant v (some { x with poolExhausted := x.poolExhausted || reaches x.poolAllowance x.poolCharged }) := by
  rw [State.exhaustPool_eq (x := x) (Table.rd_wr_self _ _ _)]
  simp only [State.setTenant_tenants, Table.wr_wr_self]
  split <;> rfl

/-! ### DEFINE TENANT (R42) -/

theorem definedBy_eq {pool default : Option Nat} (hl : body.length = 18) (hv : u8 body 0 = v.val + 1)
    (hpool : u8 body 1 = 0 ∧ pool = some (u24 body 2) ∨ u8 body 1 = 1 ∧ pool = none)
    (hdefault : u8 body 5 = 0 ∧ default = some (u24 body 6) ∨ u8 body 5 = 1 ∧ default = none)
    (h9 : u8 body 9 ≠ 0) (h10 : u8 body 10 ≠ 0) (h11 : u8 body 11 ≠ 0) (h12 : u8 body 12 ≠ 0)
    (hjobs : 1 ≤ u16 body 14 ∧ u16 body 14 ≤ 1024) (haccounts : 1 ≤ u16 body 16 ∧ u16 body 16 ≤ 2048) :
    definedBy body = some (v, ⟨pool, 0, 0, false, default, ⟨u8 body 9, u8 body 10, u8 body 11, u8 body 12⟩,
      max 1 (min (u8 body 13) 168), u16 body 14, u16 body 16, 0, 0⟩) := by
  obtain ⟨c, hc, hp⟩ := allowanceAt_eq hpool
  obtain ⟨d, hd, hq⟩ := allowanceAt_eq hdefault
  simp only [definedBy, hl, ne_eq, not_true, if_false, tenantOf_eq_some hv, hc, hp, hd, hq, tariffAt_eq h9 h10 h11 h12,
    jobLimitOf_eq hjobs, accountLimitOf_eq haccounts, Option.bind_eq_bind, Option.bind_some]
  rfl

/-- A body that describes a tenant has every field in its range. -/
theorem definedBy_inRange {y : TenantNo × Tenant} (h : definedBy body = some y) :
    u8 body 0 ≠ 0 ∧ u8 body 0 ≤ 16 ∧ u8 body 1 ≤ 1 ∧ u8 body 5 ≤ 1
      ∧ (u8 body 9 ≠ 0 ∧ u8 body 10 ≠ 0 ∧ u8 body 11 ≠ 0 ∧ u8 body 12 ≠ 0)
      ∧ (1 ≤ u16 body 14 ∧ u16 body 14 ≤ 1024) ∧ (1 ≤ u16 body 16 ∧ u16 body 16 ≤ 2048) := by
  have selector {i : Nat} {w : Nat} {c : Choice Nat} (h : choiceAt body i [1] w = some c) : u8 body i ≤ 1 := by
    by_contra hgt
    rw [choiceAt_eq_none (by omega) (by simp; omega)] at h
    cases h
  unfold definedBy at h
  split at h
  · cases h
  · simp only [Option.bind_eq_bind, Option.bind_eq_some_iff] at h
    obtain ⟨v, hv, c, hc, _, _, d, hd, _, _, w, hw, jobs, hjobs, accounts, haccounts, -⟩ := h
    have htenant : ¬ (u8 body 0 = 0 ∨ 16 < u8 body 0) := fun hout => by
      rw [tenantOf_eq_none hout] at hv
      cases hv
    refine ⟨by omega, by omega, selector hc, selector hd, ?_, ?_, ?_⟩
    · simp only [tariffAt] at hw
      split at hw
      · cases hw
      · next hn => simpa using hn
    · unfold jobLimitOf at hjobs
      split at hjobs
      · assumption
      · cases hjobs
    · unfold accountLimitOf at haccounts
      split at haccounts
      · assumption
      · cases haccounts

theorem workDefineTenant_eq (hd : definedBy body = some (v, x)) (hv : s.tenants.rd v = none) :
    workDefineTenant body s = accept [] ((s.setTenant v (some x)).exhaustPool v) := by
  simp [workDefineTenant, hd, State.defined, hv]

/-- What DEFINE TENANT does (R41, R42). -/
theorem defineTenant_defines {s : State} (h : s.Ready port .defineTenant body) (hl : body.length = 18)
    {pool default : Option Nat} (hv : u8 body 0 = v.val + 1)
    (hpool : u8 body 1 = 0 ∧ pool = some (u24 body 2) ∨ u8 body 1 = 1 ∧ pool = none)
    (hdefault : u8 body 5 = 0 ∧ default = some (u24 body 6) ∨ u8 body 5 = 1 ∧ default = none)
    (h9 : u8 body 9 ≠ 0) (h10 : u8 body 10 ≠ 0) (h11 : u8 body 11 ≠ 0) (h12 : u8 body 12 ≠ 0)
    (hjobs : 1 ≤ u16 body 14 ∧ u16 body 14 ≤ 1024) (haccounts : 1 ≤ u16 body 16 ∧ u16 body 16 ≤ 2048) :
    (s.tenants.rd v = none → ∃ s' : State,
        s' = { s.begun port .defineTenant tag with
          tenants := s.tenants.wr v (some ⟨pool, 0, 0, decide (pool = some 0), default,
            ⟨u8 body 9, u8 body 10, u8 body 11, u8 body 12⟩, max 1 (min (u8 body 13) 168),
            u16 body 14, u16 body 16, 0, 0⟩) }
        ∧ exec (.defineTenant port tag body) s = .next
          ((if pool = some 0 then s'.raise .poolExhausted (toTenantAndFacilities v) else s').acceptedWith
            port .defineTenant tag []))
      ∧ (s.tenants.rd v ≠ none → exec (.defineTenant port tag body) s
        = .next ((s.begun port .defineTenant tag).replied port .defineTenant tag (.refused .wrongState) [])) := by
  have hd := definedBy_eq hl hv hpool hdefault h9 h10 h11 h12 hjobs haccounts
  refine ⟨fun ht => ⟨_, rfl, ?_⟩, fun ht => ?_⟩
  · have hw := workDefineTenant_eq (s := s.begun port .defineTenant tag) hd ht
    rw [State.exhaustPool_setTenant] at hw
    simp only [reaches_zero, Bool.false_or, decide_eq_true_eq, true_and] at hw
    exact exec_accepted (r := .defineTenant) h hw
  · refine exec_refused (r := .defineTenant) h ?_
    have hdef : (s.begun port .defineTenant tag).defined v = true := Option.isSome_iff_ne_none.mpr ht
    simp only [blockWork, workDefineTenant, hd, hdef, if_true]

/-! ### AMEND TENANT (R43) -/

/-- The changes of an AMEND TENANT body (log 20). -/
def tenantChanges (b : List Byte) : TenantChanges where
  pool := if u8 b 1 = 0 then some (some (u24 b 2)) else if u8 b 1 = 1 then some none else none
  default := if u8 b 5 = 0 then some (some (u24 b 6)) else if u8 b 5 = 1 then some none else none
  tariff := if u8 b 9 = 0 then some ⟨u8 b 10, u8 b 11, u8 b 12, u8 b 13⟩ else none
  holdHours := if u8 b 14 = 0 then some (max 1 (min (u8 b 15) 168)) else none
  jobLimit := if u8 b 16 = 0 then some (u16 b 17) else none
  accountLimit := if u8 b 19 = 0 then some (u16 b 20) else none

theorem tenantChangesAt_eq (hl : body.length = 22) (hv : u8 body 0 = v.val + 1)
    (hpool : u8 body 1 ≤ 1 ∨ u8 body 1 = 3) (hdefault : u8 body 5 ≤ 1 ∨ u8 body 5 = 3)
    (htariff : u8 body 9 = 0 ∧ u8 body 10 ≠ 0 ∧ u8 body 11 ≠ 0 ∧ u8 body 12 ≠ 0 ∧ u8 body 13 ≠ 0 ∨ u8 body 9 = 3)
    (hhold : u8 body 14 = 0 ∨ u8 body 14 = 3)
    (hjobs : u8 body 16 = 0 ∧ 1 ≤ u16 body 17 ∧ u16 body 17 ≤ 1024 ∨ u8 body 16 = 3)
    (haccounts : u8 body 19 = 0 ∧ 1 ≤ u16 body 20 ∧ u16 body 20 ≤ 2048 ∨ u8 body 19 = 3) :
    tenantChangesAt body = some (v, tenantChanges body) := by
  obtain ⟨c1, hc1, hr1⟩ := allowanceAt_amended (w := u24 body 2) hpool
  obtain ⟨c2, hc2, hr2⟩ := allowanceAt_amended (w := u24 body 6) hdefault
  obtain ⟨c3, hc3, hr3⟩ := readAt_amended (o := tariffAt body 10) (htariff.imp_left fun ⟨h, h0, h1, h2, h3⟩ =>
    ⟨h, tariffAt_eq h0 h1 h2 h3⟩)
  obtain ⟨c4, hc4, hr4⟩ := valueAt_amended (val := u8 body 15) hhold
  obtain ⟨c5, hc5, hr5⟩ := readAt_amended (o := jobLimitOf (u16 body 17)) (hjobs.imp_left fun ⟨h, hr⟩ =>
    ⟨h, jobLimitOf_eq hr⟩)
  obtain ⟨c6, hc6, hr6⟩ := readAt_amended (o := accountLimitOf (u16 body 20)) (haccounts.imp_left fun ⟨h, hr⟩ =>
    ⟨h, accountLimitOf_eq hr⟩)
  simp only [tenantChangesAt, hl, ne_eq, not_true, if_false, tenantOf_eq_some hv, hc1, hr1, hc2, hr2, hc3, hr3, hc4, hr4,
    hc5, hr5, hc6, hr6, Option.bind_eq_bind, Option.bind_some]
  by_cases h14 : u8 body 14 = 0
  · simp only [tenantChanges, h14, if_true]
    rfl
  · simp only [tenantChanges, h14, if_false]
    rfl

theorem getD_ite {c : Prop} [Decidable c] (a d : α) (o : Option α) :
    (if c then some a else o).getD d = if c then a else o.getD d := by
  split <;> rfl

theorem Tenant.amend_tenantChanges : x.amend (tenantChanges b) = { x with
    poolAllowance := if u8 b 1 = 0 then some (u24 b 2) else if u8 b 1 = 1 then none else x.poolAllowance
    poolExhausted := if u8 b 1 = 0 then x.poolExhausted else if u8 b 1 = 1 then false else x.poolExhausted
    defaultAllowance := if u8 b 5 = 0 then some (u24 b 6) else if u8 b 5 = 1 then none else x.defaultAllowance
    tariff := if u8 b 9 = 0 then ⟨u8 b 10, u8 b 11, u8 b 12, u8 b 13⟩ else x.tariff
    holdHours := if u8 b 14 = 0 then max 1 (min (u8 b 15) 168) else x.holdHours
    jobLimit := if u8 b 16 = 0 then u16 b 17 else x.jobLimit
    accountLimit := if u8 b 19 = 0 then u16 b 20 else x.accountLimit } := by
  simp only [Tenant.amend, tenantChanges, getD_ite, Option.getD_none]
  by_cases h0 : u8 b 1 = 0
  · simp [h0]
  · by_cases h1 : u8 b 1 = 1 <;> simp [h0, h1]

theorem belowCount_tenantChanges : (tenantChanges b).belowCount x = true
    ↔ u8 b 16 = 0 ∧ u16 b 17 < x.liveJobs ∨ u8 b 19 = 0 ∧ u16 b 20 < x.accountCount := by
  simp only [TenantChanges.belowCount, tenantChanges, Bool.or_eq_true]
  by_cases h16 : u8 b 16 = 0 <;> by_cases h19 : u8 b 19 = 0 <;> simp [h16, h19]

theorem workAmendTenant_eq (hc : tenantChangesAt body = some (v, tenantChanges body)) (hx : s.tenants.rd v = some x) :
    workAmendTenant body s = if (tenantChanges body).belowCount x = true then refuse .limit s
      else accept [] (if (tenantChanges body).pool.isSome = true
        then (s.setTenant v (some (x.amend (tenantChanges body)))).exhaustPool v
        else s.setTenant v (some (x.amend (tenantChanges body)))) := by
  simp only [workAmendTenant, hc, hx]

/-- The amended record, its pool's flag set where a new allowance lies at or below the charged amount (R41, R43). -/
theorem State.amendTenant_eq {y : Tenant} (hy : y = { x with
      poolAllowance := if u8 b 1 = 0 then some (u24 b 2) else if u8 b 1 = 1 then none else x.poolAllowance
      poolExhausted := if u8 b 1 = 0 then x.poolExhausted || decide (u24 b 2 ≤ x.poolCharged)
        else if u8 b 1 = 1 then false else x.poolExhausted
      defaultAllowance := if u8 b 5 = 0 then some (u24 b 6) else if u8 b 5 = 1 then none else x.defaultAllowance
      tariff := if u8 b 9 = 0 then ⟨u8 b 10, u8 b 11, u8 b 12, u8 b 13⟩ else x.tariff
      holdHours := if u8 b 14 = 0 then max 1 (min (u8 b 15) 168) else x.holdHours
      jobLimit := if u8 b 16 = 0 then u16 b 17 else x.jobLimit
      accountLimit := if u8 b 19 = 0 then u16 b 20 else x.accountLimit }) :
    (if (tenantChanges b).pool.isSome = true
      then (s.setTenant v (some (x.amend (tenantChanges b)))).exhaustPool v
      else s.setTenant v (some (x.amend (tenantChanges b))))
    = if u8 b 1 = 0 ∧ u24 b 2 ≤ x.poolCharged ∧ x.poolExhausted = false
      then (s.setTenant v (some y)).raise .poolExhausted (toTenantAndFacilities v) else s.setTenant v (some y) := by
  subst hy
  rw [State.exhaustPool_setTenant, Tenant.amend_tenantChanges]
  by_cases h0 : u8 b 1 = 0
  · simp only [tenantChanges, h0, if_true, Option.isSome_some, reaches, decide_eq_true_eq, true_and, and_comm]
  · by_cases h1 : u8 b 1 = 1
    · simp [tenantChanges, h1, reaches]
    · simp only [tenantChanges, h0, h1, if_false, Option.isSome_none, Bool.false_eq_true, false_and]

/-- Settles O31, by `defineTenant_defines` and the choices that AMEND TENANT's body may make. -/
theorem tenantIsDefinedAndAmended : Obligations.TenantIsDefinedAndAmended := by
  refine ⟨fun s port tag body h hl => ⟨?_, fun hout => ?_⟩,
    fun s port tag body v h hl hv hpool hdefault htariff hhold hjobs haccounts => ?_⟩
  · intro v pool default hv hpool hdefault h9 h10 h11 h12 h14 h14' h16 h16'
    exact defineTenant_defines h hl hv hpool hdefault h9 h10 h11 h12 ⟨h14, h14'⟩ ⟨h16, h16'⟩
  · refine exec_refused (r := .defineTenant) h ?_
    have hnone : definedBy body = none := by
      cases hd : definedBy body with
      | none => rfl
      | some y =>
        obtain ⟨h0, h0', h1, h5, ⟨h9, h10, h11, h12⟩, h14, h16⟩ := definedBy_inRange hd
        omega
    simp only [blockWork, workDefineTenant, hnone]
  · have hc := tenantChangesAt_eq hl hv hpool hdefault htariff hhold hjobs haccounts
    refine ⟨fun x hx => ⟨fun ⟨hj, ha⟩ => ⟨_, rfl, ?_⟩, fun hlow => ?_⟩, fun hx => ?_⟩
    · have hw := workAmendTenant_eq (s := s.begun port .amendTenant tag) hc hx
      rw [if_neg, State.amendTenant_eq rfl] at hw
      · exact exec_accepted (r := .amendTenant) h hw
      · rw [belowCount_tenantChanges]
        rintro (⟨h0, hlt⟩ | ⟨h0, hlt⟩)
        · exact absurd (hj h0) (Nat.not_le.mpr hlt)
        · exact absurd (ha h0) (Nat.not_le.mpr hlt)
    · have hw := workAmendTenant_eq (s := s.begun port .amendTenant tag) hc hx
      rw [if_pos (belowCount_tenantChanges.mpr hlow)] at hw
      exact exec_refused (r := .amendTenant) h hw
    · refine exec_refused (r := .amendTenant) h ?_
      simp only [blockWork, workAmendTenant, hc, State.begun_tenants, hx]

end Sys2Proof.Machine
end


section
/-! SUPPORT. What a removed tenant takes with it (R7, R45; log 12). -/

namespace Sys2Proof.Machine

variable {s t u : State} {port m : PortNo} {tag : Byte} {body : List Byte} {v : TenantNo} {p : PrinterNo} {e : Enrolled}
  {j : Job} {n : RecordNo} {l : List RecordNo} {which : Job → Bool}

/-! ### The records of a predicate, each freed once (log 12) -/

/-- Only the order of freeing is free: the records are those of the predicate, each once. -/
theorem State.freeing_perm (which : Job → Bool) :
    (s.freeing which).Perm ((List.finRange 1024).filter fun n => (s.jobAt n).any which) := by
  unfold State.freeing Config.freeOrder
  generalize ((List.finRange 1024).filter fun n => (s.jobAt n).any which) = picked
  refine ((List.perm_insertionSort _ _).filterMap _).trans ?_
  rw [List.filterMap_map]
  simp only [Function.comp_def, numberBelow_val]
  rw [List.filterMap_some]

theorem State.freeing_nodup (which : Job → Bool) : (s.freeing which).Nodup :=
  (State.freeing_perm which).nodup_iff.mpr ((List.nodup_finRange 1024).filter _)

/-- Records freed, each once: their generations rise, they join the free list in that order, and others stay (R60). -/
theorem foldl_freeRecord_records (hnd : l.Nodup) (hl : ∀ n ∈ l, (s.jobAt n).isSome = true) :
    (l.foldl State.freeRecord s).freeList = s.freeList ++ l
      ∧ (∀ n ∈ l, (l.foldl State.freeRecord s).jobs.rd n = ⟨(s.jobs.rd n).generation + 1, none⟩)
      ∧ ∀ n, n ∉ l → (l.foldl State.freeRecord s).jobs.rd n = s.jobs.rd n := by
  induction l generalizing s with
  | nil => exact ⟨(List.append_nil _).symm, fun n h => absurd h List.not_mem_nil, fun _ _ => rfl⟩
  | cons k l ih =>
    obtain ⟨hk, hnd⟩ := List.nodup_cons.mp hnd
    obtain ⟨j, hj⟩ := Option.isSome_iff_exists.mp (hl k List.mem_cons_self)
    have hfree := State.freeRecord_eq hj
    obtain ⟨hlist, hin, hout⟩ := ih (s := s.freeRecord k) hnd fun n hn => by
      have hne : k ≠ n := fun e => hk (e ▸ hn)
      rw [State.freeRecord_jobAt, if_neg hne]
      exact hl n (List.mem_cons_of_mem _ hn)
    have hrd (n : RecordNo) (hn : k ≠ n) : (s.freeRecord k).jobs.rd n = s.jobs.rd n := by
      rw [hfree]
      exact Table.rd_wr_of_ne _ _ hn
    rw [List.foldl_cons]
    refine ⟨?_, fun n hn => ?_, fun n hn => ?_⟩
    · rw [hlist, hfree]
      simp
    · rcases List.mem_cons.mp hn with rfl | hn
      · rw [hout _ hk, hfree]
        exact Table.rd_wr_self _ _ _
      · rw [hin n hn, hrd n fun e => hk (e ▸ hn)]
    · rw [hout n fun h => hn (List.mem_cons_of_mem _ h), hrd n fun e => hn (e ▸ List.mem_cons_self)]

theorem State.freeWhere_records (which : Job → Bool) :
    (s.freeWhere which).freeList = s.freeList ++ s.freeing which
      ∧ (∀ n j, s.jobAt n = some j → which j = true →
        (s.freeWhere which).jobs.rd n = ⟨(s.jobs.rd n).generation + 1, none⟩)
      ∧ ∀ n j, s.jobAt n = some j → which j = false → (s.freeWhere which).jobs.rd n = s.jobs.rd n := by
  obtain ⟨hlist, hin, hout⟩ := foldl_freeRecord_records (s := { s with draws := s.draws + 1 })
    (State.freeing_nodup (s := s) which) fun n hn => by
      have := State.mem_freeing.mp hn
      change (s.jobAt n).isSome = true
      cases hj : s.jobAt n with
      | none => rw [hj] at this; cases this
      | some j => rfl
  rw [State.freeWhere_eq]
  refine ⟨hlist, fun n j hj hw => hin n (State.mem_freeing.mpr (by rw [hj]; exact hw)), fun n j hj hw => hout n fun hn => ?_⟩
  have := State.mem_freeing.mp hn
  rw [hj] at this
  exact Bool.false_ne_true (hw.symm.trans this)

/-! ### The parts of REMOVE TENANT -/

theorem State.endTenantSessions_frame (v : TenantNo) : ∃ ss as ps, s.endTenantSessions v = { s with
    sessions := ss, accounts := as, positions := ps } := by
  unfold State.endTenantSessions
  generalize List.finRange 64 = l
  induction l generalizing s with
  | nil => exact ⟨s.sessions, s.accounts, s.positions, rfl⟩
  | cons p l ih =>
    rw [List.foldl_cons]
    split
    · obtain ⟨_, _, _, h⟩ := s.endSession_frame p .tenantRemoved
      rw [h]
      exact ih
    · exact ih

/-- A port of the removed tenant is UNBOUND, and the event of a printer becoming DISABLED passes it by (R45, R185). -/
theorem State.dropTenant_port (hr : (s.ports.rd m).role = .tenant v) :
    (s.dropTenant v).ports.rd m = ⟨.unbound, none, none, none, false, 0, 0, .idle⟩ := by
  have hbound : ((s.ports.map fun x => if x.role = .tenant v then x.bind .unbound else x).rd m)
      = ⟨.unbound, none, none, none, false, 0, 0, .idle⟩ := by
    rw [Table.rd_map, if_pos hr]
    rfl
  unfold State.dropTenant State.unshare
  dsimp only
  split
  · rw [State.setTenant_ports, State.raise, Table.rd_map]
    change (if toFacilities (((s.ports.map fun x => if x.role = .tenant v then x.bind .unbound else x).rd m)).role then _
      else (s.ports.map fun x => if x.role = .tenant v then x.bind .unbound else x).rd m) = _
    rw [hbound]
    rfl
  · exact hbound

theorem State.tenantActive_eq_true {cam : Bool} (hj : s.jobAt n = some j) (ho : j.owner.tenant = v)
    (ha : j.state.active = some (p, cam)) : s.tenantActive v = true := by
  refine List.any_eq_true.mpr ⟨s.jobs.rd n, Table.mem_cells.mpr ⟨n, rfl⟩, ?_⟩
  have : (s.jobs.rd n).job = some j := hj
  simp [this, ho, ha]

theorem State.tenantActive_false (h : ∀ n j p cam, s.jobAt n = some j → j.owner.tenant = v →
    j.state.active ≠ some (p, cam)) : s.tenantActive v = false := by
  rw [State.tenantActive, List.any_eq_false]
  intro r hr
  obtain ⟨n, rfl⟩ := Table.mem_cells.mp hr
  cases hj : (s.jobs.rd n).job with
  | none => simp
  | some j =>
    by_cases ho : j.owner.tenant = v
    · have : j.state.active = none := Option.eq_none_iff_forall_ne_some.mpr fun ⟨p, cam⟩ => h n j p cam hj ho
      simp [this]
    · simp [ho]

theorem workRemoveTenant_eq (hd : s.defined v = true) (ha : s.tenantActive v = false) : workRemoveTenant v s
    = accept [] (((s.endTenantSessions v).freeWhere fun j => decide (j.owner.tenant = v)).dropTenant v) := by
  simp only [workRemoveTenant, hd, ha, Bool.not_true, Bool.false_eq_true, if_false]
  rfl

theorem workRemoveTenant_active (hd : s.defined v = true) (ha : s.tenantActive v = true) :
    workRemoveTenant v s = refuse .wrongState s := by
  simp only [workRemoveTenant, hd, ha, Bool.not_true, Bool.false_eq_true, if_false, if_true]

theorem Printer.withoutTenant_of_enrolled : (Printer.enrolled e).withoutTenant v = .enrolled { e with
    sharing := e.sharing.without v
    service := if e.sharing = .dedicated v ∧ e.service = .inService
      then (if e.activeJob = none then .disabled else .draining) else e.service } := by
  obtain ⟨service, sharing, descriptor, codes, grace, activeJob, slots⟩ := e
  cases activeJob <;> rfl

/-- Settles O33, by `workRemoveTenant_eq` and what freeing the tenant's records leaves (`State.freeWhere_eq`). -/
theorem tenantIsRemoved : Obligations.TenantIsRemoved := by
  intro s port tag body v h hl hv hd
  have hnamed := onTenantNumber_named (s := s.begun port .removeTenant tag) (work := workRemoveTenant) hl hv
  refine ⟨fun hidle => ?_, fun ⟨n, j, p, cam, hj, ho, ha⟩ => ?_⟩
  · have hw := hnamed.trans (workRemoveTenant_eq hd (State.tenantActive_false hidle))
    have hbegun (m : PortNo) (hm : m ≠ port) := State.begun_rd_of_ne (s := s) (r := .removeTenant) (tag := tag) hm
    have hat (n : RecordNo) := State.endTenantSessions_jobAt (s := s.begun port .removeTenant tag) v n
    obtain ⟨_, _, _, hend⟩ := (s.begun port .removeTenant tag).endTenantSessions_frame v
    have hsess {p : PrinterNo} {y : Session} (hy : ((s.begun port .removeTenant tag).endTenantSessions v).sessions.rd p = some y) :=
      (State.endTenantSessions_sessions hy).2
    generalize (s.begun port .removeTenant tag).endTenantSessions v = w at hw hat hend hsess
    obtain ⟨hlist, hfreed, hkept⟩ := State.freeWhere_records (s := w) fun j => decide (j.owner.tenant = v)
    have hjobAt := State.freeWhere_jobAt (s := w) fun j => decide (j.owner.tenant = v)
    have hsess' {p : PrinterNo} {y : Session} := State.freeWhere_sessions (s := w) (p := p) (y := y)
      fun j => decide (j.owner.tenant = v)
    obtain ⟨_, _, _, _, _, _, _, _, hfree⟩ := w.freeWhere_frame fun j => decide (j.owner.tenant = v)
    have hmem {n : RecordNo} := State.mem_freeing (s := w) (n := n) (which := fun j => decide (j.owner.tenant = v))
    have hnd := State.freeing_nodup (s := w) fun j => decide (j.owner.tenant = v)
    generalize (w.freeing fun j => decide (j.owner.tenant = v)) = order at hlist hmem hnd
    generalize (w.freeWhere fun j => decide (j.owner.tenant = v)) = x at hw hlist hfreed hkept hjobAt hsess' hfree
    have hport (m : PortNo) (hr : (s.ports.rd m).role = .tenant v) (hm : m ≠ port) :
        (x.dropTenant v).ports.rd m = ⟨.unbound, none, none, none, false, 0, 0, .idle⟩ := by
      have hrd : x.ports.rd m = s.ports.rd m := by
        rw [hfree, hend]
        exact hbegun m hm
      exact State.dropTenant_port (by rw [hrd]; exact hr)
    obtain ⟨ps, hdrop⟩ := State.dropTenant_eq (s := x) v
    rw [hdrop] at hw hport
    have hbegin : w.jobs = s.jobs ∧ w.printers = s.printers ∧ w.freeList = s.freeList := by
      rw [hend]
      exact ⟨rfl, rfl, rfl⟩
    obtain ⟨hjobs, hprinters, hfreeList⟩ := hbegin
    have hxp : x.printers = s.printers := by rw [hfree]; exact hprinters
    have howner {n : RecordNo} {j : Job} (hj : s.jobAt n = some j) : w.jobAt n = some j := (hat n).trans hj
    refine ⟨order, _, hnd, fun n => ?_, exec_accepted_serving (r := .removeTenant) h hw, Table.rd_wr_self _ _ _,
      ?_, Table.rd_wr_self _ _ _, fun n j hj => ?_, fun n j hj ho => ?_, fun n j hj ho => ?_, ?_, fun p y hy => ?_,
      hport, fun p sh who hp => ?_, fun p e hp => ?_, ?_, ?_, ?_⟩
    · rw [hmem, Option.any_eq_true]
      simp only [decide_eq_true_eq]
      exact ⟨fun ⟨j, hj, ho⟩ => ⟨j, (hat n).symm.trans hj, ho⟩, fun ⟨j, hj, ho⟩ => ⟨j, howner hj, ho⟩⟩
    · simp
    · have hj' : x.jobAt n = some j := hj
      rw [hjobAt] at hj'
      split at hj'
      · cases hj'
      · next hno =>
        refine ⟨(hat n).symm.trans hj', fun ho => hno ?_⟩
        rw [hj']
        exact decide_eq_true ho
    · exact (hfreed n j (howner hj) (decide_eq_true ho)).trans (by rw [hjobs])
    · exact (hkept n j (howner hj) (decide_eq_false ho)).trans (by rw [hjobs])
    · exact hlist.trans (by rw [hfreeList])
    · obtain ⟨z, hz, hk⟩ := hsess' hy
      rw [hk]
      exact hsess hz
    · change (x.printers.map (Printer.withoutTenant v)).rd p = _
      rw [Table.rd_map, hxp, hp]
      rfl
    · change (x.printers.map (Printer.withoutTenant v)).rd p = _
      rw [Table.rd_map, hxp, hp]
      exact Printer.withoutTenant_of_enrolled
    · change x.reorders = _
      rw [hfree, hend]
      rfl
    · change x.callouts = _
      rw [hfree, hend]
      rfl
    · change x.lines = _
      rw [hfree, hend]
      rfl
  · refine exec_refused_serving (r := .removeTenant) h ?_
    exact hnamed.trans (workRemoveTenant_active hd (State.tenantActive_eq_true (s := s.begun port .removeTenant tag) hj ho ha))

end Sys2Proof.Machine
end


section
/-! SUPPORT. Accounts created, renewed, amended and removed (R47 to R56; log 12). -/

namespace Sys2Proof.Machine

variable {s t u : State} {port : PortNo} {tag : Byte} {body : List Byte} {v : TenantNo} {x : Tenant} {a : Account}
  {key : AccountKey} {cred : Option Word32} {allowance : Option Nat} {n : RecordNo} {j : Job} {p : PrinterNo}

/-- A tenant port's request is its tenant's. -/
theorem onTenant_begun {r : Request} {f : TenantNo → State → State × Option Reply}
    (hr : (s.ports.rd port).role = .tenant v) :
    onTenant (s.begun port r tag) port f = f v (s.begun port r tag) :=
  onTenant_of_role ((State.begun_role port).trans hr)

/-! ### CREATE ACCOUNT (R51) -/

theorem credentialOf_eq {w : Word32} : credentialOf w = if w = 0 then none else some w := rfl

/-- The allowance of a new account: a value, ABSENT, or the tenant's default (R48). -/
theorem newAllowanceAt_eq {i w : Nat} (h : u8 body i = 0 ∧ allowance = some w ∨ u8 body i = 1 ∧ allowance = none
    ∨ u8 body i = 2 ∧ allowance = x.defaultAllowance) :
    ∃ c, choiceAt body i [1, 2] w = some c ∧ resolveAllowance x c = allowance := by
  obtain ⟨h, rfl⟩ | ⟨h, rfl⟩ | ⟨h, rfl⟩ := h
  · exact ⟨_, choiceAt_of_zero h, rfl⟩
  · exact ⟨_, choiceAt_of_one h (by simp), rfl⟩
  · exact ⟨_, choiceAt_of_two h (by simp), rfl⟩

theorem State.digestTaken_eq_true :
    s.digestTaken key cred = true ↔ cred ≠ none ∧ ∃ b ∈ s.accounts, b.key ≠ key ∧ b.credential = cred := by
  cases cred with
  | none => simp [State.digestTaken]
  | some d =>
    simp only [State.digestTaken, List.any_eq_true, Bool.and_eq_true, decide_eq_true_eq, ne_eq, reduceCtorEq,
      not_false_eq_true, true_and]
    exact ⟨fun ⟨b, hb, hd, hk⟩ => ⟨b, hb, hk, hd⟩, fun ⟨b, hb, hk, hd⟩ => ⟨b, hb, hd, hk⟩⟩

/-- The two ways in which a new account is a DUPLICATE (R51). -/
theorem State.duplicate_iff : ((s.account key).isSome || s.digestTaken key cred) = true
    ↔ ∃ b ∈ s.accounts, b.key = key ∨ (cred ≠ none ∧ b.credential = cred) := by
  rw [Bool.or_eq_true, State.account_isSome_iff, State.digestTaken_eq_true]
  constructor
  · rintro (⟨b, hb, hk⟩ | ⟨hc, b, hb, -, hd⟩)
    · exact ⟨b, hb, .inl hk⟩
    · exact ⟨b, hb, .inr ⟨hc, hd⟩⟩
  · rintro ⟨b, hb, hk | ⟨hc, hd⟩⟩
    · exact .inl ⟨b, hb, hk⟩
    · by_cases hk : b.key = key
      · exact .inl ⟨b, hb, hk⟩
      · exact .inr ⟨hc, b, hb, hk, hd⟩

/-- The EXHAUSTED flag of an account that a key finds (R41). -/
theorem State.exhaustAccount_of_some (ha : s.account key = some a) : s.exhaustAccount key =
    if a.exhausted = false ∧ reaches a.allowance a.charged = true
    then (s.modAccount key fun a => { a with exhausted := true }).raise .accountExhausted (toTenant key.tenant) else s := by
  simp only [State.exhaustAccount, ha, Bool.and_eq_true, Bool.not_eq_true', and_comm]

/-- A new account taken into the table, its flag set with the event by an allowance of 0 (R41, R51). -/
theorem State.addAccount_eq (hnew : ∀ b ∈ s.accounts, b.key ≠ key) (hx : s.tenants.rd key.tenant = some x)
    (hu : u = { s with
      accounts := s.accounts ++ [⟨key, cred, allowance, 0, 0, false, decide (allowance = some 0), 0, none⟩]
      tenants := s.tenants.wr key.tenant (some { x with accountCount := x.accountCount + 1 }) }) :
    s.addAccount (.fresh key cred allowance)
      = if allowance = some 0 then u.raise .accountExhausted (toTenant key.tenant) else u := by
  have hfind : (s.accounts ++ [Account.fresh key cred allowance]).find? (fun b => decide (b.key = key))
      = some (.fresh key cred allowance) := by
    rw [List.find?_append, List.find?_eq_none.mpr fun b hb => by simpa using hnew b hb]
    simp [Account.fresh]
  have hsame (f : Account → Account) : (s.accounts.map fun b => if b.key = key then f b else b) = s.accounts := by
    refine (List.map_congr_left fun b hb => if_neg (hnew b hb)).trans (List.map_id' _)
  subst hu
  simp only [State.addAccount]
  rw [State.modTenant_of_some (x := x)]
  on_goal 2 => exact hx
  rw [State.exhaustAccount_of_some (a := .fresh key cred allowance)]
  on_goal 2 => exact hfind
  have hflag : ((Account.fresh key cred allowance).exhausted = false
      ∧ reaches (Account.fresh key cred allowance).allowance (Account.fresh key cred allowance).charged = true)
      ↔ allowance = some 0 := by
    simp [Account.fresh, reaches_zero]
  by_cases h0 : allowance = some 0
  · rw [if_pos (hflag.mpr h0), if_pos h0]
    simp only [State.modAccount, State.setTenant_accounts, Account.fresh, List.map_append, hsame, List.map_cons,
      List.map_nil, if_true, h0, decide_true]
    rfl
  · rw [if_neg (fun hf => h0 (hflag.mp hf)), if_neg h0]
    simp only [h0, decide_false]
    rfl

theorem workCreateAccount_eq {c : Choice Nat} (hl : body.length = 10) (h0 : u16 body 0 ≠ 0)
    (hx : s.tenants.rd v = some x) (hc : choiceAt body 6 [1, 2] (u24 body 7) = some c)
    (hr : resolveAllowance x c = allowance) (hcred : credentialOf (u32 body 2) = cred) : workCreateAccount body v s
      = if ((s.account ⟨v, u16 body 0⟩).isSome || s.digestTaken ⟨v, u16 body 0⟩ cred) = true then refuse .duplicate s
        else if x.accountLimit ≤ x.accountCount then refuse .limit s
        else if 2048 ≤ s.accounts.length then refuse .poolFull s
        else accept (be2 (u16 body 0) ++ optField 3 be3 allowance)
          (s.addAccount (.fresh ⟨v, u16 body 0⟩ cred allowance)) := by
  simp only [workCreateAccount, hl, ne_eq, not_true, if_false, accountKeyAt_of_ne h0, hc, hx, hcred, hr]
  rfl

/-! ### RENEW PERIOD (R56) -/

theorem State.renewWhere_eq (which : Account → Bool) : s.renewWhere which = { s with
    accounts := s.accounts.map fun a => if which a = true then
      { a with charged := 0, exhausted := decide (a.allowance = some 0) } else a } := by
  simp only [State.renewWhere, Account.renew, reaches_zero]

theorem workRenewPeriod_all (hl : body.length = 3) (h : u8 body 0 = 4) : workRenewPeriod body v s
    = accept (be2 (s.accounts.filter fun a => decide (a.key.tenant = v)).length)
      (s.renewWhere fun a => decide (a.key.tenant = v)) := by
  simp only [workRenewPeriod, hl, ne_eq, not_true, if_false, choiceAt_of_four h (List.mem_singleton.mpr rfl)]

theorem workRenewPeriod_one (hl : body.length = 3) (h : u8 body 0 = 0) (h0 : u16 body 1 ≠ 0) :
    workRenewPeriod body v s = if (s.account ⟨v, u16 body 1⟩).isSome = true
      then accept (be2 1) (s.renewWhere fun a => decide (a.key = ⟨v, u16 body 1⟩)) else refuse .noSuch s := by
  simp only [workRenewPeriod, hl, ne_eq, not_true, if_false, choiceAt_of_zero h, accountKeyAt_of_ne h0]

/-- Settles O34, by `workCreateAccount_eq` and `State.renewWhere_eq`. -/
theorem accountsAreCreatedAndRenewed : Obligations.AccountsAreCreatedAndRenewed := by
  refine ⟨fun s port tag body v x cred allowance h hr hl h0 hx hcred ha => ?_, fun s port tag body v h hr hl => ?_⟩
  · obtain ⟨c, hc, hres⟩ := newAllowanceAt_eq (x := x) ha
    have hw := (onTenant_begun (r := .createAccount) (tag := tag) (f := workCreateAccount body) hr).trans
      (workCreateAccount_eq (s := s.begun port .createAccount tag) hl h0 hx hc hres hcred.symm)
    refine ⟨fun hnew => ?_, fun hdup => ?_⟩
    · rw [if_neg (fun hd => by
        obtain ⟨b, hb, hk | ⟨hne, hk⟩⟩ := State.duplicate_iff.mp hd
        · exact (hnew b hb).1 hk
        · exact ((hnew b hb).2.resolve_left hne) hk)] at hw
      refine ⟨fun hlt hroom => ⟨_, rfl, ?_⟩, fun hle => ?_, fun hlt hfull => ?_⟩
      · rw [if_neg (Nat.not_le.mpr hlt), State.begun_accounts, if_neg (Nat.not_le.mpr hroom),
          State.addAccount_eq (s := s.begun port .createAccount tag) (fun b hb => (hnew b hb).1) hx rfl] at hw
        exact exec_accepted (r := .createAccount) h hw
      · rw [if_pos hle] at hw
        exact exec_refused (r := .createAccount) h hw
      · rw [if_neg (Nat.not_le.mpr hlt), State.begun_accounts, if_pos hfull] at hw
        exact exec_refused (r := .createAccount) h hw
    · rw [if_pos (State.duplicate_iff (s := s.begun port .createAccount tag).mpr hdup)] at hw
      exact exec_refused (r := .createAccount) h hw
  · have hrole := onTenant_begun (r := .renewPeriod) (tag := tag) (f := workRenewPeriod body) hr
    refine ⟨fun h4 => ?_, fun hz h1 hex => ?_, fun hz h1 hno => ?_⟩
    · have hw := hrole.trans (workRenewPeriod_all hl h4)
      rw [State.renewWhere_eq] at hw
      simp only [decide_eq_true_eq] at hw
      exact exec_accepted (r := .renewPeriod) h hw
    · have hw := hrole.trans (workRenewPeriod_one hl hz h1)
      rw [if_pos (State.account_isSome_iff (s := s.begun port .renewPeriod tag).mpr hex), State.renewWhere_eq] at hw
      simp only [decide_eq_true_eq] at hw
      exact exec_accepted (r := .renewPeriod) h hw
    · have hw := hrole.trans (workRenewPeriod_one hl hz h1)
      rw [if_neg (fun hsome => by
        obtain ⟨b, hb, hk⟩ := State.account_isSome_iff.mp hsome
        exact hno b hb hk)] at hw
      exact exec_refused (r := .renewPeriod) h hw

/-! ### AMEND ACCOUNT (R52, R53) -/

/-- The changes of an AMEND ACCOUNT body. -/
def accountChanges (b : List Byte) : AccountChanges where
  allowance := if u8 b 2 = 0 then some (.value (u24 b 3)) else if u8 b 2 = 1 then some .absent
    else if u8 b 2 = 2 then some .default else none
  credential := if u8 b 6 = 0 then some (credentialOf (u32 b 7)) else none
  barred := if u8 b 11 = 0 then some (decide (u8 b 12 = 1)) else none

theorem accountChanges_credential (b : List Byte) :
    (accountChanges b).credential = if u8 b 6 = 0 then some (credentialOf (u32 b 7)) else none := rfl

theorem amendedAllowanceAt_eq {i w : Nat} (h : u8 body i ≤ 3) : ∃ c, choiceAt body i [1, 2, 3] w = some c
    ∧ amendedOf c some = some (if u8 body i = 0 then some (.value w) else if u8 body i = 1 then some .absent
      else if u8 body i = 2 then some .default else none) := by
  obtain h | h | h | h : u8 body i = 0 ∨ u8 body i = 1 ∨ u8 body i = 2 ∨ u8 body i = 3 := by omega
  · exact ⟨_, choiceAt_of_zero h, by simp [h, amendedOf]⟩
  · exact ⟨_, choiceAt_of_one h (by simp), by simp [h, amendedOf]⟩
  · exact ⟨_, choiceAt_of_two h (by simp), by simp [h, amendedOf]⟩
  · exact ⟨_, choiceAt_of_three h (by simp), by simp [h, amendedOf]⟩

theorem flagAt_of_le {i : Nat} (h : u8 body i ≤ 1) : flagAt body i = some (decide (u8 body i = 1)) := by
  obtain h | h : u8 body i = 0 ∨ u8 body i = 1 := by omega
  · simp [flagAt, h]
  · simp [flagAt, h]

theorem accountChangesAt_eq (hl : body.length = 13) (h0 : u16 body 0 ≠ 0) (h2 : u8 body 2 ≤ 3)
    (h6 : u8 body 6 = 0 ∨ u8 body 6 = 3) (h11 : u8 body 11 = 0 ∧ u8 body 12 ≤ 1 ∨ u8 body 11 = 3) :
    accountChangesAt v body = some (⟨v, u16 body 0⟩, accountChanges body) := by
  obtain ⟨c1, hc1, hr1⟩ := amendedAllowanceAt_eq (w := u24 body 3) h2
  obtain ⟨c2, hc2, hr2⟩ := valueAt_amended (val := u32 body 7) h6
  obtain ⟨c3, hc3, hr3⟩ := readAt_amended (o := flagAt body 12) (h11.imp_left fun ⟨h, hf⟩ => ⟨h, flagAt_of_le hf⟩)
  simp only [accountChangesAt, hl, ne_eq, not_true, if_false, accountKeyAt_of_ne h0, hc1, hr1, hc2, hr2, hc3, hr3,
    Option.bind_eq_bind, Option.bind_some]
  by_cases h6 : u8 body 6 = 0
  · simp only [accountChanges, h6, if_true]
    rfl
  · simp only [accountChanges, h6, if_false]
    rfl

/-- What the fields of an AMEND ACCOUNT body make of an account, its flag apart (R52). -/
theorem Account.amend_accountChanges {barred : Bool} {b : List Byte}
    (ha : allowance = if u8 b 2 = 0 then some (u24 b 3) else if u8 b 2 = 1 then none
      else if u8 b 2 = 2 then x.defaultAllowance else a.allowance)
    (hc : cred = if u8 b 6 = 3 then a.credential else if u32 b 7 = 0 then none else some (u32 b 7))
    (hb : barred = if u8 b 11 = 3 then a.barred else decide (u8 b 12 = 1))
    (h2 : u8 b 2 ≤ 3) (h6 : u8 b 6 = 0 ∨ u8 b 6 = 3) (h11 : u8 b 11 = 0 ∨ u8 b 11 = 3) :
    a.amend x (accountChanges b) = { a with
      allowance := allowance, credential := cred, barred := barred
      exhausted := if u8 b 2 ≠ 3 ∧ allowance = none then false else a.exhausted } := by
  have hcred : (accountChanges b).credential.getD a.credential = cred := by
    subst hc
    obtain h | h := h6
    · rw [if_neg (by omega), accountChanges_credential, if_pos h, Option.getD_some, credentialOf_eq]
    · rw [if_pos h, accountChanges_credential, if_neg (by omega), Option.getD_none]
  have hbar : (accountChanges b).barred.getD a.barred = barred := by
    subst hb
    obtain h | h := h11 <;> simp [accountChanges, h]
  have hall : ((accountChanges b).allowance.map (resolveAllowance x)).getD a.allowance = allowance := by
    subst ha
    obtain h | h | h | h : u8 b 2 = 0 ∨ u8 b 2 = 1 ∨ u8 b 2 = 2 ∨ u8 b 2 = 3 := by omega
    all_goals simp [accountChanges, h, resolveAllowance]
  have hflag : (accountChanges b).allowance.map (resolveAllowance x) = some none ↔ u8 b 2 ≠ 3 ∧ allowance = none := by
    subst ha
    obtain h | h | h | h : u8 b 2 = 0 ∨ u8 b 2 = 1 ∨ u8 b 2 = 2 ∨ u8 b 2 = 3 := by omega
    all_goals simp [accountChanges, h, resolveAllowance]
  simp only [Account.amend, hcred, hbar, hall, hflag]

theorem accountChanges_allowance_isSome {b : List Byte} (h2 : u8 b 2 ≤ 3) :
    (accountChanges b).allowance.isSome = true ↔ u8 b 2 ≠ 3 := by
  obtain h | h | h | h : u8 b 2 = 0 ∨ u8 b 2 = 1 ∨ u8 b 2 = 2 ∨ u8 b 2 = 3 := by omega
  all_goals simp [accountChanges, h]

theorem map_key_of_map_ite (f : Account → Account) (hf : ∀ a, (f a).key = a.key) (as : List Account) :
    (as.map fun b => if b.key = key then f b else b).map (·.key) = as.map (·.key) := by
  rw [List.map_map]
  refine List.map_congr_left fun b _ => ?_
  simp only [Function.comp]
  split
  · exact hf b
  · rfl

/-- An account amended, its flag brought up to date with a new allowance (R41, R52). -/
theorem State.amendedAccount_eq {c : AccountChanges} {a' : Account} (hn : (s.accounts.map (·.key)).Nodup)
    (ha : s.account a.key = some a) (ha' : a.amend x c = a') :
    (if c.allowance.isSome = true then (s.modAccount a.key fun b => b.amend x c).exhaustAccount a.key
      else s.modAccount a.key fun b => b.amend x c)
    = if c.allowance.isSome = true ∧ a'.exhausted = false ∧ reaches a'.allowance a'.charged = true
      then State.raise { s with
        accounts := s.accounts.map fun b => if b.key = a.key then { a' with exhausted := true } else b }
        .accountExhausted (toTenant a.key.tenant)
      else { s with accounts := s.accounts.map fun b => if b.key = a.key then a' else b } := by
  have hmod : (s.modAccount a.key fun b => b.amend x c)
      = { s with accounts := s.accounts.map fun b => if b.key = a.key then a' else b } := by
    rw [State.modAccount, map_account_found hn ha, ha']
  have hfind : (s.modAccount a.key fun b => b.amend x c).account a.key = some a' := by
    rw [State.account_modAccount (fun b => b.amend x c) (fun _ => rfl) a.key a.key, ha, Option.map_some, if_pos rfl, ha']
  rw [State.exhaustAccount_of_some hfind, hmod]
  by_cases hc : c.allowance.isSome = true
  · by_cases hf : a'.exhausted = false ∧ reaches a'.allowance a'.charged = true
    · rw [if_pos hc, if_pos hf, if_pos ⟨hc, hf⟩, ← ha',
        ← map_account_found hn ha fun b => { b.amend x c with exhausted := true },
        ← map_account_twice s.accounts a.key (f := fun b => b.amend x c) (f' := fun b => { b with exhausted := true })
          fun _ => rfl, map_account_found hn ha fun b => b.amend x c, ha']
      rfl
    · rw [if_pos hc, if_neg hf, if_neg fun h => hf h.2]
  · rw [if_neg hc, if_neg fun h => hc h.1]

/-- The account that an AMEND ACCOUNT body leaves (R41, R52). -/
theorem State.amendedAccount_body {barred : Bool} {b : List Byte} (hn : (s.accounts.map (·.key)).Nodup)
    (hfind : s.account a.key = some a)
    (ha : allowance = if u8 b 2 = 0 then some (u24 b 3) else if u8 b 2 = 1 then none
      else if u8 b 2 = 2 then x.defaultAllowance else a.allowance)
    (hc : cred = if u8 b 6 = 3 then a.credential else if u32 b 7 = 0 then none else some (u32 b 7))
    (hb : barred = if u8 b 11 = 3 then a.barred else decide (u8 b 12 = 1))
    (h2 : u8 b 2 ≤ 3) (h6 : u8 b 6 = 0 ∨ u8 b 6 = 3) (h11 : u8 b 11 = 0 ∨ u8 b 11 = 3)
    (ht : t = { s with accounts := s.accounts.map fun y => if y.key = a.key then { a with
      allowance := allowance, credential := cred, barred := barred
      exhausted := if u8 b 2 = 3 then a.exhausted else if allowance = none then false
        else a.exhausted || reaches allowance a.charged } else y }) :
    (if (accountChanges b).allowance.isSome = true
      then (s.modAccount a.key fun y => y.amend x (accountChanges b)).exhaustAccount a.key
      else s.modAccount a.key fun y => y.amend x (accountChanges b))
    = if u8 b 2 ≠ 3 ∧ a.exhausted = false ∧ reaches allowance a.charged = true
      then t.raise .accountExhausted (toTenant a.key.tenant) else t := by
  rw [State.amendedAccount_eq hn hfind (Account.amend_accountChanges ha hc hb h2 h6 h11)]
  simp only [accountChanges_allowance_isSome h2]
  subst ht
  by_cases h3 : u8 b 2 = 3
  · simp [h3]
  · cases allowance with
    | none => simp [h3, reaches]
    | some w =>
      simp only [h3, ne_eq, not_false_eq_true, true_and, and_false, if_false, reduceCtorEq]
      by_cases hf : a.exhausted = false ∧ reaches (some w) a.charged = true
      · rw [if_pos hf, if_pos hf, hf.2, Bool.or_true]
      · rw [if_neg hf, if_neg hf]
        have hsame : (a.exhausted || reaches (some w) a.charged) = a.exhausted := by
          cases hx : a.exhausted with
          | true => rfl
          | false => simpa [hx] using hf
        rw [hsame]

theorem workAmendAccount_eq (hc : accountChangesAt v body = some (key, accountChanges body))
    (ha : s.account key = some a) (hx : s.tenants.rd v = some x) : workAmendAccount body v s
      = if s.digestTaken key ((accountChanges body).credential.getD none) = true then refuse .duplicate s
        else accept ((((s.amendAccount a x (accountChanges body)).account key).map accountBody).getD [])
          (s.amendAccount a x (accountChanges body)) := by
  simp only [workAmendAccount, hc, ha, hx]

theorem workAmendAccount_noSuch (hc : accountChangesAt v body = some (key, accountChanges body))
    (ha : s.account key = none) : workAmendAccount body v s = refuse .noSuch s := by
  simp only [workAmendAccount, hc, ha]

theorem State.digestTaken_accountChanges {b : List Byte} (h6 : u8 b 6 = 0 ∨ u8 b 6 = 3) :
    s.digestTaken key ((accountChanges b).credential.getD none) = true
      ↔ u8 b 6 = 0 ∧ u32 b 7 ≠ 0 ∧ ∃ y ∈ s.accounts, y.key ≠ key ∧ y.credential = some (u32 b 7) := by
  obtain h | h := h6
  · rw [accountChanges_credential, if_pos h, Option.getD_some, State.digestTaken_eq_true]
    refine Iff.trans ?_ (and_iff_right h).symm
    by_cases h0 : u32 b 7 = 0
    · rw [credentialOf_eq, if_pos h0]
      exact iff_of_false (fun hn => hn.1 rfl) fun hn => hn.1 h0
    · rw [credentialOf_eq, if_neg h0]
      exact and_congr (iff_of_true nofun h0) .rfl
  · simp [accountChanges, h, State.digestTaken_eq_true]

theorem State.endAccountSession_of_none {reason : EndReason} (hs : a.session = none) :
    s.endAccountSession a reason = s := by
  simp only [State.endAccountSession, hs]

theorem State.endAccountSession_of_some {reason : EndReason} (hs : a.session = some p) :
    s.endAccountSession a reason = s.endSession p reason := by
  simp only [State.endAccountSession, hs]

/-- An amendment whose account keeps its session, or has none. -/
theorem State.amendAccount_keepsSession {c : AccountChanges} (hn : ¬ (c.barred = some true ∧ a.barred = false) ∨ a.session = none) :
    s.amendAccount a x c = if c.allowance.isSome = true
      then (s.modAccount a.key fun b => b.amend x c).exhaustAccount a.key
      else s.modAccount a.key fun b => b.amend x c := by
  unfold State.amendAccount
  dsimp only
  split
  · next hbar =>
    simp only [Bool.not_eq_true'] at hbar
    exact State.endAccountSession_of_none (hn.resolve_left fun h => h hbar)
  · rfl

theorem State.amendAccount_endsSession {c : AccountChanges} (hc : c.barred = some true) (hb : a.barred = false)
    (hp : a.session = some p) : s.amendAccount a x c = (if c.allowance.isSome = true
      then (s.modAccount a.key fun b => b.amend x c).exhaustAccount a.key
      else s.modAccount a.key fun b => b.amend x c).endSession p .accountBarred := by
  unfold State.amendAccount
  dsimp only
  rw [if_pos ⟨hc, by simp [hb]⟩]
  exact State.endAccountSession_of_some hp

theorem accountChanges_barred {barred : Bool} {b : List Byte} (h11 : u8 b 11 = 0 ∨ u8 b 11 = 3)
    (hb : barred = if u8 b 11 = 3 then a.barred else decide (u8 b 12 = 1)) :
    ((accountChanges b).barred = some true ∧ a.barred = false) ↔ (barred = true ∧ a.barred = false) := by
  subst hb
  obtain h | h := h11
  · simp [accountChanges, h]
  · simp [accountChanges, h]

/-- An amended account is still there. -/
theorem State.account_raised {c : Prop} [Decidable c] {f : Account → Account}
    (hf : ∀ b, (f b).key = b.key) (hfind : s.account key = some a) (hu : u.accounts = s.accounts.map f) :
    ((if c then u.raise .accountExhausted (toTenant key.tenant) else u).account key).isSome = true := by
  have hmem : (u.account key).isSome = true := by
    rw [State.account_isSome_iff, hu]
    exact (map_keys_mem hf).mpr ⟨a, State.account_mem hfind, State.account_key hfind⟩
  split
  · exact hmem
  · exact hmem

/-- AMEND ACCOUNT, of an account that the body names. -/
theorem amendAccount_amends {s : State} {barred : Bool} (h : s.Ready port .amendAccount body)
    (hr : (s.ports.rd port).role = .tenant v) (hl : body.length = 13) (h0 : u16 body 0 ≠ 0) (h2 : u8 body 2 ≤ 3)
    (h6 : u8 body 6 = 0 ∨ u8 body 6 = 3) (h11 : u8 body 11 = 0 ∧ u8 body 12 ≤ 1 ∨ u8 body 11 = 3)
    (hx : s.tenants.rd v = some x) (hn : (s.accounts.map (·.key)).Nodup) (hmem : a ∈ s.accounts)
    (hk : a.key = ⟨v, u16 body 0⟩)
    (ha : allowance = if u8 body 2 = 0 then some (u24 body 3) else if u8 body 2 = 1 then none
      else if u8 body 2 = 2 then x.defaultAllowance else a.allowance)
    (hc : cred = if u8 body 6 = 3 then a.credential else if u32 body 7 = 0 then none else some (u32 body 7))
    (hb : barred = if u8 body 11 = 3 then a.barred else decide (u8 body 12 = 1))
    (hfree : u8 body 6 = 0 → u32 body 7 ≠ 0 → ∀ b ∈ s.accounts, b.key ≠ a.key → b.credential ≠ some (u32 body 7)) :
    ∃ s' s'' : State,
      s' = { s.begun port .amendAccount tag with
        accounts := s.accounts.map fun b => if b.key = a.key then { a with
          allowance := allowance, credential := cred, barred := barred
          exhausted := if u8 body 2 = 3 then a.exhausted else if allowance = none then false
            else a.exhausted || reaches allowance a.charged } else b }
      ∧ s'' = (if u8 body 2 ≠ 3 ∧ a.exhausted = false ∧ reaches allowance a.charged = true
          then s'.raise .accountExhausted (toTenant v) else s')
      ∧ ((barred = true → a.barred = true) ∨ a.session = none →
        ∃ b, s''.account a.key = some b ∧ exec (.amendAccount port tag body) s
          = .next (State.serveChannels (s''.acceptedWith port .amendAccount tag (accountBody b))))
      ∧ (barred = true → a.barred = false → ∀ p, a.session = some p →
        ∃ b, (s''.endSession p .accountBarred).account a.key = some b ∧ exec (.amendAccount port tag body) s
          = .next (State.serveChannels ((s''.endSession p .accountBarred).acceptedWith port .amendAccount tag
            (accountBody b)))) := by
  have h11' : u8 body 11 = 0 ∨ u8 body 11 = 3 := h11.imp_left And.left
  have hfind : (s.begun port .amendAccount tag).account a.key = some a := State.account_of_mem hn hmem
  have hw := (onTenant_begun (r := .amendAccount) (tag := tag) (f := workAmendAccount body) hr).trans
    (workAmendAccount_eq (accountChangesAt_eq hl h0 h2 h6 h11) (hk ▸ hfind) hx)
  rw [if_neg (fun hd => by
    obtain ⟨hz, hd, b, hb, hbk, hbd⟩ := (State.digestTaken_accountChanges h6).mp hd
    exact hfree hz hd b hb (hk ▸ hbk) hbd), ← hk] at hw
  refine ⟨_, _, rfl, rfl, fun hkeep => ?_, fun hbar hnot p hp => ?_⟩
  all_goals
    generalize hs' : State.mk _ _ _ _ _ _ _ _ _ _ _ _ _ _ _ _ _ _ _ _ _ _ _ _ _ = s'
    have hbody := State.amendedAccount_body (s := s.begun port .amendAccount tag) hn hfind ha hc hb h2 h6 h11' hs'.symm
    have hthere : ((if u8 body 2 ≠ 3 ∧ a.exhausted = false ∧ reaches allowance a.charged = true
        then s'.raise .accountExhausted (toTenant a.key.tenant) else s').account a.key).isSome = true := by
      refine State.account_raised (s := s) (f := _) (a := a) ?_ hfind (by rw [← hs'])
      intro b
      split
      · next e => exact e.symm
      · rfl
    rw [show a.key.tenant = v by rw [hk]] at hbody hthere
    generalize (if u8 body 2 ≠ 3 ∧ a.exhausted = false ∧ reaches allowance a.charged = true
        then s'.raise .accountExhausted (toTenant v) else s') = s'' at hbody hthere ⊢
  · have hsame : ¬ ((accountChanges body).barred = some true ∧ a.barred = false) ∨ a.session = none := by
      rw [accountChanges_barred h11' hb]
      refine hkeep.imp_left fun himp ⟨h1, h2⟩ => ?_
      rw [himp h1] at h2
      cases h2
    rw [State.amendAccount_keepsSession hsame, hbody] at hw
    obtain ⟨b, hb⟩ := Option.isSome_iff_exists.mp hthere
    rw [hb] at hw
    exact ⟨b, hb, exec_accepted_serving (r := .amendAccount) h hw⟩
  · have hends := (accountChanges_barred h11' hb).mpr ⟨hbar, hnot⟩
    rw [State.amendAccount_endsSession hends.1 hnot hp, hbody] at hw
    obtain ⟨b, hb⟩ := Option.isSome_iff_exists.mp ((State.endSession_account_isSome .accountBarred a.key).trans hthere)
    rw [hb] at hw
    exact ⟨b, hb, exec_accepted_serving (r := .amendAccount) h hw⟩

/-! ### REMOVE ACCOUNT (R54) -/

theorem State.accountActive_eq_true (hj : s.jobAt n = some j) (ho : j.owner = key) (ha : j.state.active ≠ none) :
    s.accountActive key = true := by
  refine List.any_eq_true.mpr ⟨s.jobs.rd n, Table.mem_cells.mpr ⟨n, rfl⟩, ?_⟩
  have : (s.jobs.rd n).job = some j := hj
  simp [this, ho, Option.isSome_iff_ne_none, ha]

theorem State.accountActive_false (h : ∀ n j, s.jobAt n = some j → j.owner = key → j.state.active = none) :
    s.accountActive key = false := by
  rw [State.accountActive, List.any_eq_false]
  intro r hr
  obtain ⟨n, rfl⟩ := Table.mem_cells.mp hr
  cases hj : (s.jobs.rd n).job with
  | none => simp
  | some j =>
    by_cases ho : j.owner = key
    · simp [h n j hj ho]
    · simp [ho]

theorem workRemoveAccount_eq (hl : body.length = 2) (h0 : u16 body 0 ≠ 0) (ha : s.account ⟨v, u16 body 0⟩ = some a) :
    workRemoveAccount body v s = if s.accountActive ⟨v, u16 body 0⟩ = true then refuse .wrongState s
      else accept [] (s.removeAccount a) := by
  simp only [workRemoveAccount, hl, ne_eq, not_true, if_false, accountKeyAt_of_ne h0, ha]

/-- Settles O35, by `amendAccount_amends` and `workRemoveAccount_eq`. -/
theorem accountIsAmendedAndRemoved : Obligations.AccountIsAmendedAndRemoved := by
  refine ⟨fun s port tag body v x h hr hl h0 h2 h6 h11 hx hn =>
      ⟨fun a allowance cred barred hmem hk ha hc hb => ⟨fun hfree => ?_, fun hdup => ?_⟩, fun hno => ?_⟩,
    fun s port tag body v h hr hl h0 => ⟨fun a ha => ⟨fun hidle => ?_, fun ⟨n, j, hj, ho, hact⟩ => ?_⟩, fun ha => ?_⟩⟩
  · exact amendAccount_amends h hr hl h0 h2 h6 h11 hx hn hmem hk ha hc hb hfree
  · have hfind : (s.begun port .amendAccount tag).account a.key = some a := State.account_of_mem hn hmem
    have hw := (onTenant_begun (r := .amendAccount) (tag := tag) (f := workAmendAccount body) hr).trans
      (workAmendAccount_eq (accountChangesAt_eq hl h0 h2 h6 h11) (hk ▸ hfind) hx)
    obtain ⟨hz, hd, b, hb, hbk, hbd⟩ := hdup
    rw [if_pos ((State.digestTaken_accountChanges (s := s.begun port .amendAccount tag) h6).mpr ⟨hz, hd, b, hb, hk ▸ hbk, hbd⟩)] at hw
    exact exec_refused_serving (r := .amendAccount) h hw
  · refine exec_refused_serving (r := .amendAccount) h ?_
    exact (onTenant_begun (r := .amendAccount) (tag := tag) (f := workAmendAccount body) hr).trans
      (workAmendAccount_noSuch (accountChangesAt_eq hl h0 h2 h6 h11) (State.account_eq_none hno))
  · have hk := State.account_key ha
    have hw := (onTenant_begun (r := .removeAccount) (tag := tag) (f := workRemoveAccount body) hr).trans
      (workRemoveAccount_eq (s := s.begun port .removeAccount tag) hl h0 ha)
    rw [if_neg (Bool.eq_false_iff.mp (State.accountActive_false (s := s.begun port .removeAccount tag)
      fun n j hj ho => hidle n j hj (ho.trans hk.symm)))] at hw
    refine ⟨_, (s.begun port .removeAccount tag).endAccountSession a .accountRemoved, _, State.freeing_nodup
      (s := (s.begun port .removeAccount tag).endAccountSession a .accountRemoved)
      fun j => decide (j.owner = a.key) && decide (j.state = .held), fun n => ?_, ?_, rfl, ?_⟩
    · rw [State.mem_freeing, Option.any_eq_true, State.endAccountSession_jobAt]
      simp only [Bool.and_eq_true, decide_eq_true_eq]
      rfl
    · cases hs : a.session with
      | none => exact State.endAccountSession_of_none hs
      | some p => exact State.endAccountSession_of_some hs
    · refine (exec_accepted_serving (r := .removeAccount) h hw).trans ?_
      rw [State.removeAccount, State.freeWhere_eq]
      generalize List.foldl State.freeRecord _ _ = w
      rw [show a.key.tenant = v by rw [hk]]
      unfold State.modTenant
      dsimp only
      cases w.tenants.rd v <;> rfl
  · have hk := State.account_key ha
    have hw := (onTenant_begun (r := .removeAccount) (tag := tag) (f := workRemoveAccount body) hr).trans
      (workRemoveAccount_eq (s := s.begun port .removeAccount tag) hl h0 ha)
    rw [if_pos (State.accountActive_eq_true (s := s.begun port .removeAccount tag) hj (ho.trans hk) hact)] at hw
    exact exec_refused_serving (r := .removeAccount) h hw
  · refine exec_refused_serving (r := .removeAccount) h ?_
    refine (onTenant_begun (r := .removeAccount) (tag := tag) (f := workRemoveAccount body) hr).trans ?_
    simp only [workRemoveAccount, hl, ne_eq, not_true, if_false, accountKeyAt_of_ne h0, State.begun_account, ha]

end Sys2Proof.Machine
end


section
/-! SUPPORT. Jobs submitted, withdrawn, collected and expired (R60, R61, R69 to R77; log 3, log 6). -/

namespace Sys2Proof.Machine

variable {s t u : State} {port : PortNo} {tag : Byte} {body : List Byte} {v : TenantNo} {x : Tenant} {n : RecordNo}
  {j : Job} {p : PrinterNo} {h : Handle} {y : Session} {preferred : Option PrinterNo}

/-! ### SUBMIT JOB (R69, R70) -/

theorem State.preferredAt_eq (h : (u8 body 12).testBit 1 = false ∧ preferred = none
    ∨ (u8 body 12).testBit 1 = true ∧ ∃ p, preferred = some p ∧ u8 body 13 = p.val ∧ (s.enrolled p).isSome = true) :
    s.preferredAt body = some preferred := by
  obtain ⟨h, rfl⟩ | ⟨h, p, rfl, hp, he⟩ := h
  · simp [State.preferredAt, h]
  · simp [State.preferredAt, h, numberBelow_of_eq hp, he]

theorem State.recordOfTag_isSome {k : Nat} : (s.recordOfTag v k).isSome = true
    ↔ ∃ n j, s.jobAt n = some j ∧ j.owner.tenant = v ∧ j.tag = k := by
  simp [State.recordOfTag, List.find?_isSome, Option.any_eq_true]

theorem workSubmitJob_eq (hl : body.length = 14) (h0 : u16 body 0 ≠ 0) (hsides : u16 body 8 ≠ 0 ∨ u16 body 10 ≠ 0)
    (hp : s.preferredAt body = some preferred) (ha : (s.account ⟨v, u16 body 0⟩).isSome = true)
    (hx : s.tenants.rd v = some x) : workSubmitJob body v s
      = if (s.recordOfTag v (u16 body 2)).isSome = true then refuse .duplicate s
        else if x.jobLimit ≤ x.liveJobs then refuse .limit s
        else (s.freeList.head?.map fun n => accept (handleBytes (s.handleOf n) ++ be2 (u16 body 2))
          (s.submit n s.freeList.tail (submittedJob body ⟨v, u16 body 0⟩ preferred (x.holdHours * 60)))).getD
            (refuse .poolFull s) := by
  obtain ⟨a, ha⟩ := Option.isSome_iff_exists.mp ha
  have hsides : ¬ (u16 body 8 = 0 ∧ u16 body 10 = 0) := by omega
  simp only [workSubmitJob, hl, ne_eq, not_true, false_or, hsides, if_false, accountKeyAt_of_ne h0, hp, ha, hx]
  cases s.freeList <;> rfl

/-- Settles O36, by `workSubmitJob_eq`, the refusals in their order. -/
theorem jobIsSubmitted : Obligations.JobIsSubmitted := by
  intro s port tag body v x preferred h hr hl h0 hsides hx ha hp
  have hw := (onTenant_begun (r := .submitJob) (tag := tag) (f := workSubmitJob body) hr).trans
    (workSubmitJob_eq (s := s.begun port .submitJob tag) hl h0 hsides (State.preferredAt_eq hp)
      (State.account_isSome_iff.mpr ha) hx)
  refine ⟨fun hnew => ?_, fun hdup => ?_⟩
  · rw [if_neg (fun hd => by
      obtain ⟨n, j, hj, ho, ht⟩ := State.recordOfTag_isSome.mp hd
      exact hnew n j hj ho ht)] at hw
    refine ⟨fun hlt n rest hfree => ?_, fun hle => ?_, fun hlt hfree => ?_⟩
    · rw [if_neg (Nat.not_le.mpr hlt), State.begun_freeList, hfree, List.head?_cons, Option.map_some, Option.getD_some,
        List.tail_cons, State.submit_eq (s := s.begun port .submitJob tag)
          (j := submittedJob body ⟨v, u16 body 0⟩ preferred (x.holdHours * 60)) hx] at hw
      exact exec_accepted (r := .submitJob) h hw
    · rw [if_pos hle] at hw
      exact exec_refused (r := .submitJob) h hw
    · rw [if_neg (Nat.not_le.mpr hlt), State.begun_freeList, hfree] at hw
      exact exec_refused (r := .submitJob) h hw
  · rw [if_pos (State.recordOfTag_isSome (s := s.begun port .submitJob tag).mpr hdup)] at hw
    exact exec_refused (r := .submitJob) h hw

/-! ### Records freed (R60) -/

theorem Table.not_mem_cells_map {k : Nat} (c : Table k (Option Handle)) (h : Handle) :
    some h ∉ (c.map fun g => if g = some h then none else g).cells := by
  simp only [Table.mem_cells, Table.rd_map, not_exists]
  intro i
  split
  · nofun
  · assumption

/-- A handle that has left the lists stands in none of them (R60, R86). -/
theorem State.forget_lists (hy : (s.forget h).sessions.rd p = some y) : h ∉ y.release ∧ some h ∉ y.eligible.cells := by
  rw [State.forget_sessions] at hy
  cases hx : s.sessions.rd p with
  | none =>
    rw [State.forgotten_of_none hx] at hy
    cases hy
  | some x =>
    rw [State.forgotten_of_some hx, Option.map_some, Option.some.injEq] at hy
    obtain ⟨-, hrelease, heligible⟩ := x.forget_fields h (s.activeJob p).isSome
      (((s.enrolled p).map (·.descriptor.window)).getD 0)
    rw [hy] at hrelease heligible
    rw [hrelease, heligible]
    exact ⟨by simp, Table.not_mem_cells_map _ h⟩

theorem State.job_eq_none_of_free {g : Fin 64} (hr : s.jobs.rd h.record = ⟨g, none⟩) : s.job h = none := by
  refine Option.eq_none_iff_forall_ne_some.mpr fun j hj => ?_
  rw [State.job_eq_some, hr] at hj
  cases hj

/-- What freeing a record leaves. -/
theorem State.freeRecord_leaves (hj : s.jobAt n = some j) :
    (s.freeRecord n).jobs = s.jobs.wr n ⟨(s.jobs.rd n).generation + 1, none⟩
      ∧ (s.freeRecord n).freeList = s.freeList ++ [n]
      ∧ (s.freeRecord n).submission = s.submission.filter (· ≠ n)
      ∧ (s.freeRecord n).completions
          = s.completions.wr j.owner.tenant ((s.completions.rd j.owner.tenant).filter (· ≠ n))
      ∧ (s.freeRecord n).accounts = (if j.state = .held then s.accounts.map (fun a =>
          if a.key = j.owner then { a with heldJobs := a.heldJobs - 1 } else a) else s.accounts)
      ∧ (∀ x, s.tenants.rd j.owner.tenant = some x → (s.freeRecord n).tenants
          = s.tenants.wr j.owner.tenant (some { x with liveJobs := x.liveJobs - 1 }))
      ∧ (∀ p x, (s.freeRecord n).sessions.rd p = some x →
          s.handleOf n ∉ x.release ∧ some (s.handleOf n) ∉ x.eligible.cells)
      ∧ (s.freeRecord n).job (s.handleOf n) = none
      ∧ s.freeRecord n = { s with
          jobs := (s.freeRecord n).jobs, freeList := (s.freeRecord n).freeList
          submission := (s.freeRecord n).submission, completions := (s.freeRecord n).completions
          accounts := (s.freeRecord n).accounts, tenants := (s.freeRecord n).tenants
          sessions := (s.freeRecord n).sessions, positions := (s.freeRecord n).positions } := by
  have hfree := State.freeRecord_eq hj
  refine ⟨?_, ?_, ?_, ?_, ?_, fun x hx => ?_, fun p x hx => ?_, State.job_eq_none_of_free
    (g := (s.jobs.rd n).generation + 1) ?_, ?_⟩
  · rw [hfree]
  · rw [hfree]
  · rw [hfree]
  · rw [hfree]
  · rw [hfree]
  · rw [hfree, State.modTenant_of_some hx]
    rfl
  · rw [hfree] at hx
    exact State.forget_lists hx
  · rw [hfree]
    exact Table.rd_wr_self _ _ _
  · rw [hfree]

/-! ### WITHDRAW (R73) -/

theorem workWithdraw_eq (hl : body.length = 2) (hj : s.tenantJob (handleAt body 0) v = some j) : workWithdraw body v s
    = if j.state = .held then accept [] (s.freeRecord (handleAt body 0).record) else refuse .wrongState s := by
  simp only [workWithdraw, hl, ne_eq, not_true, if_false, hj]

theorem workWithdraw_noSuch (hl : body.length = 2) (hj : s.tenantJob (handleAt body 0) v = none) :
    workWithdraw body v s = refuse .noSuch s := by
  simp only [workWithdraw, hl, ne_eq, not_true, if_false, hj]

theorem State.tenantJob_eq_none (h' : ∀ j, s.job h = some j → j.owner.tenant ≠ v) : s.tenantJob h v = none := by
  refine Option.eq_none_iff_forall_ne_some.mpr fun j hj => ?_
  obtain ⟨hj, ho⟩ := State.tenantJob_eq_some hj
  exact h' j hj ho

/-! ### TAKE COMPLETIONS (R77) -/

/-- A completion record of Table 12.6. -/
theorem State.completionRecord_eq {outcome : JobOutcome} {day second : Nat} (hj : s.jobAt n = some j)
    (hs : j.state = .complete outcome ⟨day, second⟩) : s.completionRecord n
      = be2 ((s.jobs.rd n).generation.val * 1024 + n.val) ++ be2 j.tag ++ be2 j.owner.number ++ be1 outcome.code
        ++ be2 day ++ be3 second ++ be2 j.doneMono ++ be2 j.doneColour ++ be3 j.charged := by
  simp only [State.completionRecord, hj, hs, clockBytes, handleBytes, ← List.append_assoc]
  rfl

theorem workTakeCompletions_eq : workTakeCompletions [] v s = accept (be1 (min (s.completions.rd v).length 6)
      ++ be2 ((s.completions.rd v).length - 6) ++ (((s.completions.rd v).take 6).map s.completionRecord).flatten)
    (((s.completions.rd v).take 6).foldl State.freeRecord s) := by
  have hrest : (s.completions.rd v).length - min 6 (s.completions.rd v).length = (s.completions.rd v).length - 6 := by
    omega
  rw [workTakeCompletions, if_neg (by simp)]
  dsimp only
  rw [State.collected, List.length_take, hrest, Nat.min_comm]

/-- Settles O37, by `State.freeRecord_leaves` and the works of the two requests. -/
theorem recordsAreFreed : Obligations.RecordsAreFreed := by
  refine ⟨fun s n j hj => State.freeRecord_leaves hj,
    fun s port tag body v h hready hr hl hh => ⟨fun j hj ho => ⟨fun hs => ?_, fun hs => ?_⟩, fun hno => ?_⟩,
    fun s n j outcome day second hj hs => ?_, fun s port tag v h hr => ?_⟩
  · subst hh
    have hw := (onTenant_begun (r := .withdraw) (tag := tag) (f := workWithdraw body) hr).trans
      (workWithdraw_eq (s := s.begun port .withdraw tag) hl (ho ▸ State.tenantJob_of_owner hj))
    rw [if_pos hs] at hw
    exact exec_accepted_serving (r := .withdraw) hready hw
  · subst hh
    have hw := (onTenant_begun (r := .withdraw) (tag := tag) (f := workWithdraw body) hr).trans
      (workWithdraw_eq (s := s.begun port .withdraw tag) hl (ho ▸ State.tenantJob_of_owner hj))
    rw [if_neg hs] at hw
    exact exec_refused_serving (r := .withdraw) hready hw
  · subst hh
    exact exec_refused_serving (r := .withdraw) hready
      ((onTenant_begun (r := .withdraw) (tag := tag) (f := workWithdraw body) hr).trans
        (workWithdraw_noSuch hl (State.tenantJob_eq_none hno)))
  · rw [State.completionRecord_eq hj hs]
    cases outcome <;> exact ⟨rfl, by simp [be1, be2, be3]⟩
  · exact exec_accepted_serving (r := .takeCompletions) h
      ((onTenant_begun (r := .takeCompletions) (tag := tag) (f := workTakeCompletions []) hr).trans workTakeCompletions_eq)

/-! ### A handle that leaves the lists (R73, R86, R91) -/

/-- A release list left empty at a printer without an active job: the session shows its list again. -/
theorem Session.forget_of_empty {active : Bool} {window : Nat} (hr : y.releasing = true) (hm : h ∈ y.release)
    (hall : ∀ g ∈ y.release, g = h) (ha : active = false) : y.forget h active window = ({ y with
      eligible := y.eligible.map fun g => if g = some h then none else g
      release := [], releasing := false, window := some window }, true) := by
  have hempty : y.release.filter (· ≠ h) = [] := List.filter_eq_nil_iff.mpr fun g hg => by simpa using hall g hg
  have hc : y.release.contains h = true := List.contains_iff_mem.mpr hm
  simp only [Session.forget, hr, hempty, hc, ha, List.isEmpty_nil, Bool.not_false, Bool.and_self, if_true]

theorem Session.forget_of_rest {active : Bool} {window : Nat}
    (hn : ¬ (y.releasing = true ∧ h ∈ y.release ∧ (∀ g ∈ y.release, g = h) ∧ active = false)) :
    y.forget h active window = ({ y with
      eligible := y.eligible.map fun g => if g = some h then none else g
      release := y.release.filter (· ≠ h) }, !y.releasing && y.eligible.cells.contains (some h)) := by
  unfold Session.forget
  dsimp only
  refine if_neg fun hc => hn ?_
  simp only [Bool.and_eq_true, List.isEmpty_iff, Bool.not_eq_true', List.contains_iff_mem, List.filter_eq_nil_iff] at hc
  obtain ⟨⟨⟨hr, hm⟩, hempty⟩, ha⟩ := hc
  exact ⟨hr, hm, fun g hg => by simpa using hempty g hg, ha⟩

/-- The first clause of O38, at one printer with a session. -/
theorem State.forget_at (hy : s.sessions.rd p = some y) :
    (y.releasing = true ∧ h ∈ y.release ∧ (∀ g ∈ y.release, g = h) ∧ s.activeJob p = none →
        ((s.forget h).positions.rd p = { s.positions.rd p with showList := true }
        ∧ ∀ e, s.printers.rd p = .enrolled e → (s.forget h).sessions.rd p = some { y with
            eligible := y.eligible.map fun g => if g = some h then none else g
            release := [], releasing := false, window := some e.descriptor.window }))
      ∧ (¬ (y.releasing = true ∧ h ∈ y.release ∧ (∀ g ∈ y.release, g = h) ∧ s.activeJob p = none) →
        (s.forget h).sessions.rd p = some { y with
            eligible := y.eligible.map fun g => if g = some h then none else g
            release := y.release.filter (· ≠ h) }
        ∧ (s.forget h).positions.rd p = (if y.releasing = false ∧ some h ∈ y.eligible.cells
            then { s.positions.rd p with showList := true } else s.positions.rd p)) := by
  rw [State.forget_sessions, State.forget_positions, State.forgotten_of_some hy]
  refine ⟨fun ⟨hr, hm, hall, ha⟩ => ?_, fun hn => ?_⟩
  · rw [Session.forget_of_empty hr hm hall (by rw [ha]; rfl)]
    refine ⟨rfl, fun e he => ?_⟩
    rw [State.enrolled_eq_some.mpr he]
    rfl
  · rw [Session.forget_of_rest (by rwa [Option.isSome_eq_false_iff, Option.isNone_iff_eq_none])]
    refine ⟨rfl, ?_⟩
    simp only [Option.any_some, Bool.and_eq_true, Bool.not_eq_true', List.contains_iff_mem]
    rfl

/-! ### JOB EXPIRE (R72) -/

theorem State.dueToExpire_iff : s.dueToExpire n = true
    ↔ ∃ j, s.jobAt n = some j ∧ j.state = .held ∧ j.holdMinutes = 0 ∧ s.inRelease (s.handleOf n) = false := by
  simp [State.dueToExpire, Option.any_eq_true, Job.expiryDue, and_assoc]

theorem State.dueToExpire_eq_false (hn : ∀ i, s.jobAt n = some i → i.state = .held → i.holdMinutes = 0 →
    ∃ p x, s.sessions.rd p = some x ∧ s.handleOf n ∈ x.release) : ¬ s.dueToExpire n = true := by
  intro hd
  obtain ⟨j, hj, hs, hm, hr⟩ := State.dueToExpire_iff.mp hd
  exact Bool.false_ne_true (hr.symm.trans (State.inRelease_iff.mpr (hn j hj hs hm)))

/-- Settles O38, by the equations of `State.forget` and `State.expire_eq`. -/
theorem heldJobExpires : Obligations.HeldJobExpires := by
  refine ⟨fun s h => ⟨rfl, fun p => ⟨fun hx => ?_, fun x hx => State.forget_at hx⟩⟩,
    fun s n before after j hsub hj hs hm hfree hbefore => ?_, fun s hnone => ?_⟩
  · rw [State.forget_sessions, State.forget_positions, State.forgotten_of_none hx]
    exact ⟨rfl, rfl⟩
  · have hdue : s.dueToExpire n = true := by
      refine State.dueToExpire_iff.mpr ⟨j, hj, hs, hm, ?_⟩
      rw [Bool.eq_false_iff]
      intro hr
      obtain ⟨p, x, hx, hin⟩ := State.inRelease_iff.mp hr
      exact hfree p x hx hin
    have hfirst : s.submission.find? s.dueToExpire = some n := by
      rw [hsub, List.find?_append, List.find?_eq_none.mpr fun m hm => State.dueToExpire_eq_false (hbefore m hm),
        List.find?_cons_of_pos hdue]
      rfl
    change Host.Outcome.next s.expireNext.serveChannels = _
    simp only [State.expireNext, hfirst, hj, State.expire_eq]
  · change Host.Outcome.next s.expireNext.serveChannels = _
    simp only [State.expireNext, List.find?_eq_none.mpr fun m hm => State.dueToExpire_eq_false (hnone m hm)]

end Sys2Proof.Machine
end


section
/-! SUPPORT. The fleet clock: second marks, minute marks, SET CLOCK and FLEET RESET (R71, R188 to R194; log 4, log 5,
log 25). -/

namespace Sys2Proof.Machine

variable {s t u : State} {port : PortNo} {tag : Byte} {body : List Byte} {p : PrinterNo} {e : Enrolled} {n : RecordNo}
  {j : Job} {day second : Nat}

/-! ### Second marks (R188, R190) -/

theorem State.secondMark_clock : s.secondMark.clock = s.clock.succ := rfl

theorem State.secondMark_job (hj : s.jobAt n = some j) :
    s.secondMark.jobs.rd n = ⟨(s.jobs.rd n).generation, some { j with state := j.state.tick }⟩ := by
  have hrd : s.jobs.rd n = ⟨(s.jobs.rd n).generation, some j⟩ := by
    rw [← hj]
    rfl
  unfold State.secondMark
  rw [Table.rd_map, hrd]
  rfl

theorem State.secondMark_free (hj : s.jobAt n = none) : s.secondMark.jobs.rd n = s.jobs.rd n := by
  have hrd : s.jobs.rd n = ⟨(s.jobs.rd n).generation, none⟩ := by
    rw [← hj]
    rfl
  unfold State.secondMark
  rw [Table.rd_map, hrd]
  rfl

theorem State.secondMark_printer (he : s.printers.rd p = .enrolled e) :
    s.secondMark.printers.rd p = .enrolled { e with
      grace := ⟨e.grace.user.map (· - 1), e.grace.supply.map (· - 1), e.grace.service.map (· - 1)⟩ } := by
  unfold State.secondMark
  rw [Table.rd_map, he]
  rfl

theorem State.secondMark_unenrolled (hn : s.enrolled p = none) :
    s.secondMark.printers.rd p = s.printers.rd p := by
  unfold State.secondMark
  rw [Table.rd_map]
  cases hp : s.printers.rd p with
  | enrolled e =>
    rw [State.enrolled_eq_some.mpr hp] at hn
    cases hn
  | _ => rfl

/-! ### Minute marks (R71, R189) -/

theorem State.takeMinuteMark_eq : s.takeMinuteMark = { s with
    jobs := s.countDown.jobs, minuteMarksDue := s.minuteMarksDue - 1 } := by
  unfold State.takeMinuteMark State.countDown
  rfl

theorem State.countDown_rd (n : RecordNo) : s.countDown.jobs.rd n = s.countDownJob n (s.jobs.rd n) := by
  unfold State.countDown
  exact Table.rd_tab _ _

theorem State.countDownJob_held (hj : s.jobAt n = some j) (hs : j.state = .held) (hn : n ∈ s.submission)
    (hr : s.inRelease (s.handleOf n) = false) :
    s.countDownJob n (s.jobs.rd n) = ⟨(s.jobs.rd n).generation, some { j with holdMinutes := j.holdMinutes - 1 }⟩ := by
  have hjob : (s.jobs.rd n).job = some j := hj
  simp only [State.countDownJob, hjob]
  exact if_pos ⟨hs, hn, hr⟩

theorem State.countDownJob_kept (hn : ∀ j, s.jobAt n = some j → j.state = .held → n ∈ s.submission →
    s.inRelease (s.handleOf n) = true) : s.countDownJob n (s.jobs.rd n) = s.jobs.rd n := by
  unfold State.countDownJob
  split
  · next j hj =>
    refine if_neg ?_
    rintro ⟨hs, hmem, hr⟩
    exact Bool.false_ne_true (hr.symm.trans (hn j hj hs hmem))
  · rfl

theorem State.inRelease_eq_false {h : Handle} (hf : ∀ p x, s.sessions.rd p = some x → h ∉ x.release) :
    s.inRelease h = false := by
  rw [Bool.eq_false_iff]
  intro hr
  obtain ⟨p, x, hx, hm⟩ := State.inRelease_iff.mp hr
  exact hf p x hx hm

theorem exec_minuteMark_due (hd : 0 < s.minuteMarksDue) : exec .minuteMark s = .next s.takeMinuteMark := if_pos hd

theorem exec_minuteMark_none (hd : s.minuteMarksDue = 0) : exec .minuteMark s
    = if s.clock.succ.onMinute = true then .next s.secondMark.takeMinuteMark else .next s := if_neg (by omega)

/-- Settles O39, by the readings of `State.secondMark` and `State.takeMinuteMark_eq`. -/
theorem marksCountTimersDown : Obligations.MarksCountTimersDown := by
  refine ⟨fun s => ⟨s.secondMark, rfl, ?_, fun p e he => State.secondMark_printer he,
      fun p hn => State.secondMark_unenrolled hn, fun p => ?_, fun p => ?_, fun n j hj => ?_,
      fun n hj => State.secondMark_free hj, ?_, ?_, ?_, rfl⟩,
    fun s hd => ⟨_, (exec_minuteMark_due hd).trans (congrArg _ State.takeMinuteMark_eq), rfl, fun n j hj hs hn hf => ?_, fun n hn => ?_⟩,
    fun s hd => ⟨fun u hu hm => ?_, fun u hu hm => ?_⟩⟩
  · rw [State.secondMark_clock, Clock.succ]
  · unfold State.secondMark
    exact Table.rd_map _ _ _
  · unfold State.secondMark
    exact Table.rd_map _ _ _
  · rw [State.secondMark_job hj]
    generalize j.state = st
    cases st <;> rfl
  · simp only [State.secondMark, Clock.onMinute, decide_eq_true_eq]
  · simp only [State.secondMark, Clock.lastSecond, decide_eq_true_eq]
    by_cases h : 86399 ≤ s.clock.second
    · rw [if_pos h, if_neg (by omega)]
    · rw [if_neg h, if_pos (by omega)]
  · simp only [State.secondMark, Clock.onMinute, decide_eq_true_eq]
  · exact (State.countDown_rd n).trans (State.countDownJob_held hj hs hn (State.inRelease_eq_false hf))
  · exact (State.countDown_rd n).trans (State.countDownJob_kept fun j hj hs hmem =>
      State.inRelease_iff.mpr (hn j hj hs hmem))
  · obtain rfl : s.secondMark = u := Host.Outcome.next.inj hu
    have hon : s.clock.succ.onMinute = true := decide_eq_true hm
    rw [exec_minuteMark_none hd, if_pos hon, exec_minuteMark_due]
    simp only [State.secondMark, hon, if_true]
    omega
  · obtain rfl : s.secondMark = u := Host.Outcome.next.inj hu
    have hon : ¬ s.clock.succ.onMinute = true := fun h => hm (of_decide_eq_true h)
    rw [exec_minuteMark_none hd, if_neg hon]

/-! ### SET CLOCK (R192) -/

theorem clockAt_eq (hl : body.length = 7) (hday : u8 body 0 = 0 ∨ u8 body 0 = 3)
    (hsecond : u8 body 3 = 0 ∧ u24 body 4 ≤ 86399 ∨ u8 body 3 = 3) :
    clockAt body = some (if u8 body 0 = 0 then some (u16 body 1) else none,
      if u8 body 3 = 0 then some (u24 body 4) else none) := by
  obtain ⟨c, hc, hr⟩ := valueAt_amended (val := u16 body 1) hday
  obtain ⟨d, hd, hq⟩ := readAt_amended (o := secondOfDay (u24 body 4)) (hsecond.imp_left fun ⟨h, hle⟩ =>
    ⟨h, if_pos hle⟩)
  simp only [clockAt, hl, ne_eq, not_true, if_false, hc, hr, hd, hq, Option.bind_eq_bind, Option.bind_some]

theorem clockAt_malformed (h3 : u8 body 3 = 0) (hgt : 86399 < u24 body 4) : clockAt body = none := by
  cases hc : clockAt body with
  | none => rfl
  | some x =>
    exfalso
    unfold clockAt at hc
    split at hc
    · cases hc
    · simp only [Option.bind_eq_bind, Option.bind_eq_some_iff] at hc
      obtain ⟨-, -, -, -, c, hc, y, hy, -⟩ := hc
      rw [choiceAt_of_zero h3, Option.some.injEq] at hc
      subst hc
      have hnone : secondOfDay (u24 body 4) = none := if_neg (by omega)
      simp [amendedOf, valueOf, hnone] at hy

theorem workSetClock_eq {o o' : Option Nat} (hc : clockAt body = some (o, o')) : workSetClock body s
    = accept (clockBytes ⟨o.getD s.clock.day, o'.getD s.clock.second⟩)
      { s with clock := ⟨o.getD s.clock.day, o'.getD s.clock.second⟩ } := by
  simp only [workSetClock, hc]

/-- Settles O41, by `workSetClock_eq` and the definition of a restart. -/
theorem clockIsSetAndFleetIsReset : Obligations.ClockIsSetAndFleetIsReset := by
  refine ⟨fun s port tag body day second h hl hday hsecond => ?_, fun s port tag body h hl h3 hgt => ?_, fun s => rfl,
    fun s tag => ?_, fun s port tag body h hb => ?_⟩
  · have hc := clockAt_eq hl (hday.imp And.left And.left) (hsecond.imp (fun ⟨h, hv, hle⟩ => ⟨h, hv ▸ hle⟩) And.left)
    have hw := workSetClock_eq (s := s.begun port .setClock tag) hc
    have hd : (if u8 body 0 = 0 then some (u16 body 1) else none).getD s.clock.day = day := by
      obtain ⟨h, rfl⟩ | ⟨h, rfl⟩ := hday <;> simp [h]
    have hs : (if u8 body 3 = 0 then some (u24 body 4) else none).getD s.clock.second = second := by
      obtain ⟨h, rfl, -⟩ | ⟨h, rfl⟩ := hsecond <;> simp [h]
    rw [State.begun_clock, hd, hs] at hw
    exact exec_accepted (r := .setClock) h hw
  · refine exec_refused (r := .setClock) h ?_
    simp only [blockWork, workSetClock, clockAt_malformed h3 hgt]
  · have hports : s.restart.serveChannels.ports = State.reset.ports := by
      obtain ⟨_, _, _, h⟩ := (serveChannels_servedTo s.restart).rest
      rw [h]
      rfl
    have hfresh : State.reset.ports.rd 0 = ⟨.facilities, none, none, none, false, 0, 0, .idle⟩ := by
      simp only [State.reset, Table.rd_tab]
      rfl
    rw [exec_fleetReset, State.acceptedWith, State.replied, State.begun]
    simp only [State.setPort, hports, Table.rd_wr_self, Table.wr_wr_self, hfresh]
    rfl
  · refine exec_refused (r := .fleetReset) h rfl ?_
    rintro ⟨-, ⟨hr, -⟩ | ⟨-, hb'⟩⟩
    · cases hr
    · exact hb hb'

end Sys2Proof.Machine
end


section
/-! SUPPORT. Day close (R124, R137, R139, R191; log 5, log 13): every slot rated once, in whatever order. -/

namespace Sys2Proof.Machine

variable {s t u : State} {p q : PrinterNo} {e : Enrolled} {i k : Nat} {x y : Slot} {l : List (PrinterNo × Nat)}
  {new : List Reorder} {r : Reorder}

/-! ### An event raised twice (R180, R181) -/

theorem Port.withSets_twice (z : Port) (a : BitVec 12) :
    (z.withSets (z.raw ||| a) z.mask).withSets ((z.withSets (z.raw ||| a) z.mask).raw ||| a)
      (z.withSets (z.raw ||| a) z.mask).mask = z.withSets (z.raw ||| a) z.mask := by
  have hor : (z.raw ||| a) ||| a = z.raw ||| a := by rw [BitVec.or_assoc, BitVec.or_self]
  simp only [Port.withSets, Port.masked, hor, decide_not, Bool.and_not_self, Bool.or_false]

/-- An event already raised changes nothing when it is raised again. -/
theorem State.raise_raise (a : Attention) (f : Role → Bool) : ((s.raise a f).raise a f).ports = (s.raise a f).ports := by
  refine Table.ext_rd fun n => ?_
  simp only [State.raise, Table.rd_map]
  by_cases h : f (s.ports.rd n).role = true
  · rw [if_pos h]
    rw [if_pos (by exact h)]
    exact Port.withSets_twice _ _
  · rw [if_neg h, if_neg h]

/-! ### The slots of every enrolled printer (log 13) -/

/-- The printer and the slot that a number of `State.allSlots` stands for. -/
def slotOfNumber (x : Nat) : PrinterNo × Nat := (⟨x / 5 % 64, Nat.mod_lt _ (by decide)⟩, x % 5)

/-- The slots of every enrolled printer, as printer and slot. -/
def State.slotList (s : State) : List (PrinterNo × Nat) :=
  (List.finRange 64).flatMap fun p => (List.range (((s.enrolled p).map (·.slots.length)).getD 0)).map fun i => (p, i)

theorem State.mem_slotList : (p, i) ∈ s.slotList ↔ ∃ e x, s.printers.rd p = .enrolled e ∧ e.slots[i]? = some x := by
  simp only [State.slotList, List.mem_flatMap, List.mem_finRange, true_and, List.mem_map, List.mem_range, Prod.mk.injEq,
    exists_eq_right_right, exists_eq_right]
  cases he : s.enrolled p with
  | none =>
    simp only [Option.map_none, Option.getD_none, Nat.not_lt_zero, false_iff, not_exists]
    rintro e x ⟨hp, -⟩
    rw [State.enrolled_eq_some.mpr hp] at he
    cases he
  | some e =>
    rw [State.enrolled_eq_some] at he
    simp only [he, Option.map_some, Option.getD_some, Printer.enrolled.injEq]
    exact ⟨fun hlt => ⟨e, e.slots[i], rfl, List.getElem?_eq_getElem hlt⟩, fun ⟨_, x, hee, hx⟩ => by
      subst hee
      exact (List.getElem?_eq_some_iff.mp hx).1⟩

theorem State.slotList_nodup : s.slotList.Nodup := by
  refine List.nodup_flatMap.mpr ⟨fun p _ => (List.nodup_range).map fun _ _ h => (Prod.mk.inj h).2, ?_⟩
  refine (List.nodup_finRange 64).imp fun {p q} hpq => ?_
  rintro ⟨a, b⟩ ha hb
  simp only [List.mem_map, Prod.mk.injEq] at ha hb
  obtain ⟨_, _, rfl, -⟩ := ha
  obtain ⟨_, _, rfl, -⟩ := hb
  exact hpq rfl

/-- A printer's slots are numbered below 5 (R117). -/
theorem State.SlotsDerived.lt_five (h : s.SlotsDerived)
    (hi : i < ((s.enrolled p).map (·.slots.length)).getD 0) : i < 5 := by
  cases he : s.enrolled p with
  | none => simp [he] at hi
  | some e =>
    obtain ⟨-, hle, -⟩ := h p e he
    simp only [he, Option.map_some, Option.getD_some] at hi
    omega

theorem State.allSlots_eq (h : s.SlotsDerived) : s.allSlots.map slotOfNumber = s.slotList := by
  simp only [State.allSlots, State.slotList, List.map_flatMap, List.map_map]
  congr 1
  funext p
  refine List.map_congr_left fun i hi => ?_
  have hlt := h.lt_five (List.mem_range.mp hi)
  have hp := p.isLt
  simp only [Function.comp, slotOfNumber, Prod.mk.injEq, Fin.ext_iff]
  omega

theorem State.closeSlotOf_eq (h : s.SlotsDerived) {a : Nat} (ha : a ∈ s.allSlots) :
    u.closeSlotOf a = u.closeSlot (slotOfNumber a).1 (slotOfNumber a).2 := by
  simp only [State.allSlots, List.mem_flatMap, List.mem_finRange, true_and, List.mem_map, List.mem_range] at ha
  obtain ⟨p, i, hi, rfl⟩ := ha
  have hlt := h.lt_five hi
  have hp := p.isLt
  have hq : (p.val * 5 + i) / 5 = (slotOfNumber (p.val * 5 + i)).1.val := by
    simp only [slotOfNumber]
    omega
  simp only [State.closeSlotOf, numberBelow_of_eq hq]
  rfl

/-- The slots in the order in which a day close takes them. -/
def State.closeOrder (s : State) : List (PrinterNo × Nat) := (Config.freeOrder s.draws s.allSlots).map slotOfNumber

theorem State.closeOrder_perm (h : s.SlotsDerived) : s.closeOrder.Perm s.slotList := by
  rw [← State.allSlots_eq h]
  exact (List.perm_insertionSort _ _).map _

theorem State.closeDay_eq (h : s.SlotsDerived) : s.closeDay
    = s.closeOrder.foldl (fun u a => u.closeSlot a.1 a.2) { s with draws := s.draws + 1 } := by
  rw [State.closeOrder, List.foldl_map, State.closeDay]
  exact List.foldl_ext _ _ _ fun u a ha => State.closeSlotOf_eq h ((List.mem_insertionSort _).mp ha)

/-! ### One slot after another -/

/-- Whether a rated slot calls for a NORMAL reorder (R137). -/
def State.fallsDue (s : State) (p : PrinterNo) (i : Nat) (x : Slot) : Prop :=
  s.openReorder p i = none ∧ x.daysToEmpty ≠ 999 ∧ x.daysToEmpty ≤ s.leadDays + s.safetyDays

/-- The record that the day-close test raises for a slot (R137, R139). -/
def State.RaisedFor (s : State) (p : PrinterNo) (i : Nat) (x : Slot) (r : Reorder) : Prop :=
  r.printer = p ∧ r.slot = i ∧ r.urgency = .normal ∧ r.state = .raised ∧ r.raisedAt = s.clock ∧ r.orderRef = none
    ∧ r.expectedDay = none ∧ r.kind = x.kind ∧ r.level = x.level

/-- What a day close has done once it has taken the slots of a list: those and no others are rated, and the records
raised are those that their tests call for. -/
structure State.ClosedTo (s t : State) (l : List (PrinterNo × Nat)) (new : List Reorder) : Prop where
  printers : ∀ p e, s.printers.rd p = .enrolled e → ∃ slots, t.printers.rd p = .enrolled { e with slots := slots }
    ∧ ∀ i, slots[i]? = if (p, i) ∈ l then e.slots[i]?.map Slot.closeDay else e.slots[i]?
  others : ∀ p, s.enrolled p = none → t.printers.rd p = s.printers.rd p
  raised : ∀ r ∈ new, (r.printer, r.slot) ∈ l ∧ ∃ x, s.slot r.printer r.slot = some x
    ∧ s.fallsDue r.printer r.slot x.closeDay ∧ s.RaisedFor r.printer r.slot x r
  due : ∀ p i x, (p, i) ∈ l → s.slot p i = some x → s.fallsDue p i x.closeDay →
    ∃ r ∈ new, r.printer = p ∧ r.slot = i
  once : (new.map fun r => (r.printer, r.slot)).Nodup
  frame : t = { s with
    printers := t.printers, reorders := s.reorders ++ new, reorderCounter := t.reorderCounter
    ports := if new = [] then s.ports else (s.raise .orderRaised toSupplies).ports }

theorem State.ClosedTo.nil : s.ClosedTo s [] [] where
  printers p e he := ⟨e.slots, he, fun i => by simp⟩
  others _ _ := rfl
  raised _ h := absurd h List.not_mem_nil
  due _ _ _ h := absurd h List.not_mem_nil
  once := List.nodup_nil
  frame := by simp

theorem State.ClosedTo.slot (h : s.ClosedTo t l new) (hn : (p, i) ∉ l) (hx : s.slot p i = some x) :
    t.slot p i = some x := by
  obtain ⟨e, he, hi⟩ := State.slot_eq_some.mp hx
  obtain ⟨slots, ht, hs⟩ := h.printers p e he
  refine State.slot_eq_some.mpr ⟨_, ht, ?_⟩
  rw [hs, if_neg hn]
  exact hi

theorem State.ClosedTo.openReorder (h : s.ClosedTo t l new) (hn : (p, i) ∉ l) :
    t.openReorder p i = s.openReorder p i := by
  have hnew : new.find? (fun r => r.concerns p i && r.state.isOpen) = none := by
    refine List.find?_eq_none.mpr fun r hr hc => hn ?_
    simp only [Reorder.concerns, Bool.and_eq_true, decide_eq_true_eq] at hc
    obtain ⟨⟨rfl, rfl⟩, -⟩ := hc
    exact (h.raised r hr).1
  rw [State.openReorder, h.frame]
  dsimp only
  rw [List.find?_append, hnew, Option.or_none, State.openReorder]

theorem State.setSlot_printers (hx : s.slot p i = some x) : s.setSlot p i y = { s with printers := (s.setSlot p i y).printers } := by
  obtain ⟨e, he, -⟩ := State.slot_eq_some.mp hx
  rw [State.setSlot_eq he]
  rfl

/-- The printers once one more slot is rated. -/
theorem State.ClosedTo.rated (h : s.ClosedTo t l new) (hn : (p, i) ∉ l) (hx : s.slot p i = some x) :
    (∀ q e, s.printers.rd q = .enrolled e → ∃ slots,
        (t.setSlot p i x.closeDay).printers.rd q = .enrolled { e with slots := slots }
        ∧ ∀ k, slots[k]? = if (q, k) ∈ l ++ [(p, i)] then e.slots[k]?.map Slot.closeDay else e.slots[k]?)
      ∧ ∀ q, s.enrolled q = none → (t.setSlot p i x.closeDay).printers.rd q = s.printers.rd q := by
  obtain ⟨e, he, hi⟩ := State.slot_eq_some.mp hx
  obtain ⟨slots, ht, hs⟩ := h.printers p e he
  have hlt : i < slots.length := by
    have hsi := hs i
    rw [if_neg hn, hi] at hsi
    exact (List.getElem?_eq_some_iff.mp hsi).1
  rw [State.setSlot_eq ht]
  refine ⟨fun q e' he' => ?_, fun q hq => ?_⟩
  · by_cases hqp : q = p
    · subst hqp
      rw [he] at he'
      cases he'
      refine ⟨slots.set i x.closeDay, Table.rd_wr_self _ _ _, fun k => ?_⟩
      rw [List.getElem?_set, if_pos hlt]
      by_cases hk : i = k
      · subst hk
        rw [if_pos rfl, if_pos (by simp), hi]
        rfl
      · simp only [if_neg hk, List.mem_append, List.mem_singleton, Prod.mk.injEq, true_and, Ne.symm hk, or_false]
        exact hs k
    · obtain ⟨slots', ht', hs'⟩ := h.printers q e' he'
      refine ⟨slots', (Table.rd_wr_of_ne _ _ (Ne.symm hqp)).trans ht', fun k => ?_⟩
      simp only [List.mem_append, List.mem_singleton, Prod.mk.injEq, hqp, false_and, or_false]
      exact hs' k
  · have hqp : p ≠ q := by
      rintro rfl
      rw [State.enrolled_eq_some.mpr he] at hq
      cases hq
    exact (Table.rd_wr_of_ne _ _ hqp).trans (h.others q hq)

theorem State.dayCloseTest_of_due (hx : s.slot p i = some x) (h : s.fallsDue p i x) :
    s.dayCloseTest p i = s.raiseReorder p i x .normal := by
  obtain ⟨ho, h999, hle⟩ := h
  simp only [State.dayCloseTest, hx, ho]
  exact if_pos (by simp [Slot.withinMargin, h999, hle])

theorem State.dayCloseTest_of_not_due (hx : s.slot p i = some x) (h : ¬ s.fallsDue p i x) :
    s.dayCloseTest p i = s := by
  simp only [State.dayCloseTest, hx]
  cases ho : s.openReorder p i with
  | some r => rfl
  | none =>
    refine if_neg fun hm => h ⟨ho, ?_⟩
    simpa [Slot.withinMargin] using hm

/-- One more slot taken by the day close. -/
theorem State.ClosedTo.step (h : s.ClosedTo t l new) (hn : (p, i) ∉ l) (hx : s.slot p i = some x) :
    ∃ new', s.ClosedTo (t.closeSlot p i) (l ++ [(p, i)]) new' := by
  have htx := h.slot hn hx
  obtain ⟨hprinters, hothers⟩ := h.rated hn hx
  have hw : (t.setSlot p i x.closeDay) = { s with
      printers := (t.setSlot p i x.closeDay).printers, reorders := s.reorders ++ new, reorderCounter := t.reorderCounter
      ports := if new = [] then s.ports else (s.raise .orderRaised toSupplies).ports } := by
    rw [State.setSlot_printers htx, h.frame]
  have hslot : (t.setSlot p i x.closeDay).slot p i = some x.closeDay := State.setSlot_slot htx
  have hopen : (t.setSlot p i x.closeDay).openReorder p i = s.openReorder p i := by
    rw [← h.openReorder hn, State.setSlot_printers htx]
    rfl
  have hclose : t.closeSlot p i = (t.setSlot p i x.closeDay).dayCloseTest p i := by
    simp only [State.closeSlot, htx]
  have hraised : ∀ r ∈ new, (r.printer, r.slot) ∈ l ++ [(p, i)] ∧ ∃ x, s.slot r.printer r.slot = some x
      ∧ s.fallsDue r.printer r.slot x.closeDay ∧ s.RaisedFor r.printer r.slot x r := fun r hr =>
    (h.raised r hr).imp_left (List.mem_append_left _)
  rw [hclose]
  generalize t.setSlot p i x.closeDay = w at hprinters hothers hw hslot hopen
  have hdue : w.fallsDue p i x.closeDay ↔ s.fallsDue p i x.closeDay := by
    rw [State.fallsDue, State.fallsDue, hopen, hw]
  by_cases hd : s.fallsDue p i x.closeDay
  · rw [State.dayCloseTest_of_due hslot (hdue.mpr hd)]
    refine ⟨new ++ [⟨t.reorderCounter, p, i, x.kind, .normal, .raised, s.clock, x.level, none, none⟩],
      hprinters, hothers, fun r hr => ?_, fun q k y hq hy hf => ?_, ?_, ?_⟩
    · obtain hr | hr := List.mem_append.mp hr
      · exact hraised r hr
      · obtain rfl := List.mem_singleton.mp hr
        exact ⟨by simp, x, hx, hd, rfl, rfl, rfl, rfl, rfl, rfl, rfl, rfl, rfl⟩
    · obtain hq | hq := List.mem_append.mp hq
      · obtain ⟨r, hr, hk⟩ := h.due q k y hq hy hf
        exact ⟨r, List.mem_append_left _ hr, hk⟩
      · cases List.mem_singleton.mp hq
        exact ⟨_, List.mem_append_right _ (List.mem_singleton.mpr rfl), rfl, rfl⟩
    · rw [List.map_append, List.map_singleton, List.nodup_append]
      refine ⟨h.once, List.nodup_singleton _, fun a ha b hb => ?_⟩
      obtain rfl := List.mem_singleton.mp hb
      obtain ⟨r, hr, rfl⟩ := List.mem_map.mp ha
      exact fun hab => hn (hab ▸ (h.raised r hr).1)
    · have hports : (w.raiseReorder p i x.closeDay .normal).ports = (s.raise .orderRaised toSupplies).ports := by
        rw [hw]
        by_cases hnew : new = []
        · rw [if_pos hnew]
          rfl
        · rw [if_neg hnew]
          exact State.raise_raise _ _
      have hraise : w.raiseReorder p i x.closeDay .normal = { w with
        reorders := w.reorders ++ [⟨w.reorderCounter, p, i, x.kind, .normal, .raised, w.clock, x.level, none, none⟩]
        reorderCounter := (w.raiseReorder p i x.closeDay .normal).reorderCounter
        ports := (w.raiseReorder p i x.closeDay .normal).ports } := rfl
      rw [if_neg (by simp), ← hports, hraise]
      generalize (w.raiseReorder p i x.closeDay .normal).ports = ps,
        (w.raiseReorder p i x.closeDay .normal).reorderCounter = number
      rw [hw]
      simp only [List.append_assoc]
  · rw [State.dayCloseTest_of_not_due hslot fun hf => hd (hdue.mp hf)]
    refine ⟨new, hprinters, hothers, hraised, fun q k y hq hy hf => ?_, h.once, ?_⟩
    · obtain hq | hq := List.mem_append.mp hq
      · exact h.due q k y hq hy hf
      · cases List.mem_singleton.mp hq
        rw [hx] at hy
        cases hy
        exact absurd hf hd
    · rw [hw]

/-- A list of slots closed, each once. -/
theorem State.closedTo_foldl (s : State) (hnd : l.Nodup) (hl : ∀ a ∈ l, (s.slot a.1 a.2).isSome = true) :
    ∃ new, s.ClosedTo (l.foldl (fun u a => u.closeSlot a.1 a.2) s) l new := by
  induction l using List.reverseRecOn with
  | nil => exact ⟨[], .nil⟩
  | append_singleton l a ih =>
    rw [List.nodup_append] at hnd
    obtain ⟨hnd, -, hdis⟩ := hnd
    obtain ⟨new, hclosed⟩ := ih hnd fun b hb => hl b (List.mem_append_left _ hb)
    obtain ⟨x, hx⟩ := Option.isSome_iff_exists.mp (hl a (by simp))
    rw [List.foldl_concat]
    exact hclosed.step (fun hm => hdis a hm a (by simp) rfl) hx

/-! ### Day close -/

/-- A day close that is due: every slot rated, and a reorder for exactly the slots whose tests call for one. -/
theorem State.closeDay_closes (h : s.SlotsDerived) : ∃ new,
    (∀ p e, s.printers.rd p = .enrolled e → s.closeDay.printers.rd p = .enrolled { e with
        slots := e.slots.map Slot.closeDay })
      ∧ State.ClosedTo { s with draws := s.draws + 1 } s.closeDay s.slotList new := by
  have hmem {a : PrinterNo × Nat} : a ∈ s.closeOrder ↔ a ∈ s.slotList := (State.closeOrder_perm h).mem_iff
  obtain ⟨new, hc⟩ := State.closedTo_foldl (l := s.closeOrder) { s with draws := s.draws + 1 }
    ((State.closeOrder_perm h).nodup_iff.mpr State.slotList_nodup) fun a ha => by
      obtain ⟨e, x, he, hx⟩ := State.mem_slotList.mp (hmem.mp ha)
      exact Option.isSome_iff_exists.mpr ⟨x, State.slot_eq_some.mpr ⟨e, he, hx⟩⟩
  have hclose := State.closeDay_eq h
  rw [← hclose] at hc
  refine ⟨new, fun p e he => ?_, ⟨fun p e he => ?_, hc.others, fun r hr => ?_, fun p i x hm hx hf => ?_, hc.once, ?_⟩⟩
  · obtain ⟨slots, ht, hs⟩ := hc.printers p e he
    refine ht.trans (congrArg (fun l => Printer.enrolled { e with slots := l }) (List.ext_getElem? fun i => ?_))
    rw [hs, List.getElem?_map]
    cases hx : e.slots[i]? with
    | none => split <;> rfl
    | some x => rw [if_pos (hmem.mpr (State.mem_slotList.mpr ⟨e, x, he, hx⟩))]
  · obtain ⟨slots, ht, hs⟩ := hc.printers p e he
    exact ⟨slots, ht, fun i => by rw [hs]; simp only [hmem]⟩
  · obtain ⟨hin, hr⟩ := hc.raised r hr
    exact ⟨hmem.mp hin, hr⟩
  · exact hc.due p i x (hmem.mpr hm) hx hf
  · exact hc.frame

theorem exec_dayClose_due (hd : 0 < s.dayClosesDue) : exec .dayClose s = .next s.takeDayClose := if_pos hd

theorem exec_dayClose_none (hd : s.dayClosesDue = 0) : exec .dayClose s
    = if s.clock.lastSecond = true then .next s.secondMark.takeDayClose else .next s := if_neg (by omega)

/-- Settles O40, by `State.closeDay_closes`, where the order of the slots does not matter. -/
theorem dayCloseRatesAndTests : Obligations.DayCloseRatesAndTests := by
  refine ⟨fun s h hd => ?_, fun rate remaining => rfl, fun s hd => ⟨fun u hu hlast => ?_, fun hlast => ?_⟩⟩
  · obtain ⟨new, hp, hc⟩ := State.closeDay_closes h
    have hreorders : s.takeDayClose.reorders = s.reorders ++ new := congrArg State.reorders hc.frame
    refine ⟨s.takeDayClose, new, if_pos hd, hp, hc.others, hreorders, hc.once, fun p i => ⟨?_, ?_⟩, fun r hr => ?_, ?_⟩
    · rintro ⟨r, hr, rfl, rfl⟩
      obtain ⟨-, x, hx, ⟨ho, h999, hle⟩, -⟩ := hc.raised r hr
      obtain ⟨e, he, hx⟩ := State.slot_eq_some.mp hx
      exact ⟨_, x.closeDay, hp _ e he, by rw [List.getElem?_map, hx]; rfl, ho, h999, hle⟩
    · rintro ⟨e', x', he', hx', ho, h999, hle⟩
      cases he : s.enrolled p with
      | none =>
        rw [show s.takeDayClose.printers.rd p = s.printers.rd p from hc.others p he] at he'
        rw [State.enrolled_eq_some.mpr he'] at he
        cases he
      | some e =>
        rw [State.enrolled_eq_some] at he
        rw [show s.takeDayClose.printers.rd p = _ from hp p e he] at he'
        cases he'
        rw [List.getElem?_map, Option.map_eq_some_iff] at hx'
        obtain ⟨x, hx, rfl⟩ := hx'
        exact hc.due p i x (State.mem_slotList.mpr ⟨e, x, he, hx⟩) (State.slot_eq_some.mpr ⟨e, he, hx⟩) ⟨ho, h999, hle⟩
    · obtain ⟨-, x, hx, -, -, -, hu, hs, hat, href, hday, hk, hlev⟩ := hc.raised r hr
      obtain ⟨e, he, hx⟩ := State.slot_eq_some.mp hx
      exact ⟨hu, hs, hat, href, hday, e, x, he, hx, hk, hlev⟩
    · rw [hreorders]
      exact congrArg (fun u : State => { u with dayClosesDue := s.dayClosesDue - 1 }) hc.frame
  · obtain rfl : s.secondMark = u := Host.Outcome.next.inj hu
    have hlast' : s.clock.lastSecond = true := decide_eq_true hlast
    rw [exec_dayClose_none hd, if_pos hlast', exec_dayClose_due]
    simp only [State.secondMark, hlast', if_true]
    omega
  · have hlast' : ¬ s.clock.lastSecond = true := fun hl => absurd (of_decide_eq_true hl) (Nat.not_le.mpr hlast)
    rw [exec_dayClose_none hd, if_neg hlast']

end Sys2Proof.Machine
end


section
/-! SUPPORT. Sessions ending, re-holds, the expiries of timers, and the callout list (R66, R80, R87, R95, R156 to R168;
log 3, log 23). -/

namespace Sys2Proof.Machine

variable {s t u : State} {port : PortNo} {tag : Byte} {body : List Byte} {p : PrinterNo} {e : Enrolled} {cls : CondClass}
  {h : Handle} {j : Job} {cam : Bool} {x : Session} {n : CalloutNo} {y : Callout} {code : Byte} {c : ChannelNo}
  {k : PositionNo}

/-! ### The end of a session (R80, R87) -/

/-- The ends without an END SESSION mark: by their reason, or because the user has logged out (Table 5.3, log 23). -/
theorem EndReason.unmarked_iff (reason : EndReason) (out : Bool) : (reason.marks && !(out && reason.withJob)) = false
    ↔ reason ∈ [.takenOver, .channelReset] ∨ (out = true
      ∧ reason ∈ [.sessionDone, .printerStopped, .grantRefused, .notStarted]) := by
  cases reason <;> cases out <;> decide

theorem State.windowExpired_due (hx : s.sessions.rd p = some x) (hr : x.releasing = false) (hw : x.window = some 0) :
    s.windowExpired p = s.endSession p .timedOut := by
  simp [State.windowExpired, hx, hr, hw]

theorem State.windowExpired_early (hn : ∀ x, s.sessions.rd p = some x → x.releasing = true ∨ x.window ≠ some 0) :
    s.windowExpired p = s := by
  cases hx : s.sessions.rd p with
  | none => simp only [State.windowExpired, hx]
  | some x =>
    simp only [State.windowExpired, hx]
    refine if_neg fun hc => ?_
    simp only [Bool.and_eq_true, Bool.not_eq_true', decide_eq_true_eq] at hc
    obtain hr | hw := hn x hx
    · exact Bool.false_ne_true (hc.1.symm.trans hr)
    · exact hw hc.2

/-- Settles O42, by the equations of `State.endSession` and of the two expiries. -/
theorem sessionsEndAndSilenceProbes : Obligations.SessionsEndAndSilenceProbes := by
  refine ⟨fun s p reason hx => State.endSession_of_none hx, fun s p reason x hx => ?_, fun s p x hx hr hw => ?_,
    fun s p hn => ?_, fun s c k hk => ?_, fun s c k hk => ?_⟩
  · rw [State.endSession_of_some hx]
    cases hm : reason.marks && !(x.loggedOut && reason.withJob) with
    | false =>
      rw [if_pos ((reason.unmarked_iff x.loggedOut).mp hm)]
      rfl
    | true =>
      rw [if_neg fun h => Bool.false_ne_true (((reason.unmarked_iff x.loggedOut).mpr h).symm.trans hm)]
      rfl
  · exact congrArg (fun u : State => Host.Outcome.next u.serveChannels) (State.windowExpired_due hx hr hw)
  · exact congrArg (fun u : State => Host.Outcome.next u.serveChannels) (State.windowExpired_early hn)
  · exact congrArg (fun u : State => Host.Outcome.next u.serveChannels) (if_pos hk)
  · exact congrArg (fun u : State => Host.Outcome.next u.serveChannels) (if_neg hk)

/-! ### Re-holds and the job timers (R66, R95, R157, R159) -/

theorem State.releaseRehold_eq {reason : EndReason} (hu : s.rehold h p = some u) :
    s.releaseRehold h p reason = (u.setMark p .revoke).endSession p reason := by
  simp only [State.releaseRehold, hu]

theorem State.conditionRehold_eq (ha : s.activeJob p = some h) (hu : s.rehold h p = some u) :
    s.conditionRehold p = (u.setMark p .revoke).endSession p .printerStopped := by
  simp only [State.conditionRehold, ha, hu]

theorem State.startExpired_due (ha : s.activeJob p = some h) (hj : s.job h = some j)
    (hs : j.state = .granted p cam (some 0)) : s.startExpired p = s.releaseRehold h p .notStarted := by
  simp only [State.startExpired, ha, State.grantedAt_eq_some.mpr ⟨hj, hs⟩]

theorem State.startExpired_early (hn : ∀ h j cam, s.activeJob p = some h → s.job h = some j →
    j.state ≠ .granted p cam (some 0)) : s.startExpired p = s := by
  cases ha : s.activeJob p with
  | none => simp only [State.startExpired, ha]
  | some h =>
    cases hg : s.grantedAt h p with
    | none => simp only [State.startExpired, ha, hg]
    | some g =>
      obtain ⟨j, cam, timer⟩ := g
      obtain ⟨hj, hs⟩ := State.grantedAt_eq_some.mp hg
      have htimer : timer ≠ some 0 := fun e => hn h j cam ha hj (e ▸ hs)
      simp only [State.startExpired, ha, hg]
      obtain _ | _ | k := timer
      · rfl
      · exact absurd rfl htimer
      · rfl

theorem State.suspendExpired_due (ha : s.activeJob p = some h) (hj : s.job h = some j)
    (hs : j.state = .suspended p cam 0) : s.suspendExpired p = s.conditionRehold p := by
  simp only [State.suspendExpired, ha, State.activeAt_eq_some.mpr ⟨hj, cam, by rw [hs]; rfl⟩, hs]

theorem State.suspendExpired_early (hn : ∀ h j cam, s.activeJob p = some h → s.job h = some j →
    j.state ≠ .suspended p cam 0) : s.suspendExpired p = s := by
  cases ha : s.activeJob p with
  | none => simp only [State.suspendExpired, ha]
  | some h =>
    cases hg : s.activeAt h p with
    | none => simp only [State.suspendExpired, ha, hg]
    | some j =>
      obtain ⟨hj, cam, hact⟩ := State.activeAt_eq_some.mp hg
      simp only [State.suspendExpired, ha, hg]
      cases hs : j.state with
      | suspended q cam' timer =>
        rw [hs] at hact
        cases hact
        cases timer with
        | zero => exact absurd hs (hn h j _ ha hj)
        | succ n => rfl
      | _ => rfl

/-- Settles O43, by `State.rehold_eq`, and by what each expiry does when its timer stands at 0 and when it does not. -/
theorem jobsAreReheld : Obligations.JobsAreReheld := by
  refine ⟨fun s h p j cam e x hj ha he hx => ⟨_, State.rehold_eq hj ha he hx, rfl, rfl⟩,
    fun s h p hn => State.rehold_eq_none hn, fun s u p h j cam ha hj hu => ⟨fun hs => ?_, fun hs => ?_⟩,
    fun s p hn => ?_, fun s p hn => ?_⟩
  · exact congrArg (fun u : State => Host.Outcome.next u.serveChannels)
      ((State.startExpired_due ha hj hs).trans (State.releaseRehold_eq hu))
  · exact congrArg (fun u : State => Host.Outcome.next u.serveChannels)
      ((State.suspendExpired_due ha hj hs).trans (State.conditionRehold_eq ha hu))
  · exact congrArg (fun u : State => Host.Outcome.next u.serveChannels) (State.startExpired_early hn)
  · exact congrArg (fun u : State => Host.Outcome.next u.serveChannels) (State.suspendExpired_early hn)

/-! ### Callouts opening (R156, R163, R164) -/

theorem slotEmptyOf_ofNat {i : Nat} (hi : i < 5) : slotEmptyOf .supply (BitVec.ofNat 8 (i + 1)) = some i := by
  rw [slotEmptyOf_supply hi, BitVec.toNat_ofNat]
  omega

theorem slotEmptyOf_eq_none (hn : cls ≠ .supply ∨ 5 < code.toNat ∨ code = 0) : slotEmptyOf cls code = none := by
  refine if_neg ?_
  rintro ⟨hc, h1, h5⟩
  obtain h | h | rfl := hn
  · exact h hc
  · omega
  · exact absurd h1 (by decide)

theorem State.suspendedJob_eq_some : s.suspendedJob p = some h
    ↔ s.activeJob p = some h ∧ ∃ j q cam timer, s.job h = some j ∧ j.state = .suspended q cam timer := by
  cases ha : s.activeJob p with
  | none => simp [State.suspendedJob, ha]
  | some g =>
    cases hj : s.job g with
    | none =>
      simp only [State.suspendedJob, ha, hj, Option.some.injEq, reduceCtorEq, false_iff]
      rintro ⟨rfl, i, -, -, -, hi, -⟩
      rw [hj] at hi
      cases hi
    | some j =>
      simp only [State.suspendedJob, ha, hj, Option.some.injEq]
      cases hs : j.state with
      | suspended q cam timer =>
        simp only [Option.some.injEq]
        exact ⟨fun e => ⟨e, j, q, cam, timer, e ▸ hj, hs⟩, And.left⟩
      | _ =>
        simp only [reduceCtorEq, false_iff]
        rintro ⟨rfl, i, q, cam, timer, hi, hi'⟩
        rw [hj] at hi
        cases hi
        rw [hs] at hi'
        cases hi'

theorem PerClass.set_get {α : Type} (x : PerClass α) (c : CondClass) : x.set c (x.get c) = x := by
  cases c <;> rfl

theorem State.setCallout_opened (p : PrinterNo) (hy : y.state = .opened) : s.setCallout p cls (some y) = { s with
    callouts := s.callouts.wr (calloutNo p cls) (some y), lines := s.lines.set cls true } := by
  have hopen : anyOpenCallout (s.callouts.wr (calloutNo p cls) (some y)) cls = true :=
    anyOpenCallout_iff.mpr ⟨calloutNo p cls, y, calloutClass_calloutNo, Table.rd_wr_self _ _ _, hy⟩
  rw [State.setCallout, hopen]

/-- A callout that opens, afresh or again (R163, R164). -/
theorem State.openCallout_eq {count : Nat} (hc : s.callout p cls = none ∧ count = 0
      ∨ ∃ x, s.callout p cls = some x ∧ x.state = .cleared ∧ count = min (x.reopenCount + 1) 255)
    (hu : u = State.raise { s with
      callouts := s.callouts.wr (calloutNo p cls) (some ⟨code, s.clock, .opened, count, s.linkedReorder p cls code,
        s.suspendedJob p⟩)
      lines := s.lines.set cls true } .calloutOpened toFacilities) :
    s.openCallout p cls code = if cls = .service ∧ s.suspendedJob p ≠ none then u.conditionRehold p else u := by
  subst hu
  rw [← State.setCallout_opened (s := s) (cls := cls) p (y := ⟨code, s.clock, .opened, count, s.linkedReorder p cls code,
    s.suspendedJob p⟩) rfl]
  simp only [← Option.isSome_iff_ne_none]
  obtain ⟨hc, rfl⟩ | ⟨x, hc, hx, rfl⟩ := hc
  · simp only [State.openCallout, hc]
  · simp only [State.openCallout, hc, hx]

theorem State.graceExpired_due (he : s.printers.rd p = .enrolled e) (hg : e.grace.get cls = some 0) :
    s.graceExpired p cls = State.openCallout { s with
      printers := s.printers.wr p (.enrolled { e with grace := e.grace.set cls none }) } p cls (e.codes.get cls) := by
  simp only [State.graceExpired, State.enrolled_eq_some.mpr he, hg, if_true, State.setClass, PerClass.set_get]
  rfl

theorem State.graceExpired_early (hn : ∀ e, s.printers.rd p = .enrolled e → e.grace.get cls ≠ some 0) :
    s.graceExpired p cls = s := by
  cases he : s.enrolled p with
  | none => simp only [State.graceExpired, he]
  | some e =>
    simp only [State.graceExpired, he]
    exact if_neg (hn e (State.enrolled_eq_some.mp he))

/-- A printer's grace timers say nothing of its slots and its active job. -/
theorem State.grace_readings {grace : PerClass (Option Nat)} (he : s.printers.rd p = .enrolled e)
    (ht : t = { s with printers := s.printers.wr p (.enrolled { e with grace := grace }) }) :
    t.suspendedJob p = s.suspendedJob p ∧ t.linkedReorder p cls code = s.linkedReorder p cls code := by
  have hrd : t.printers.rd p = .enrolled { e with grace := grace } := by rw [ht]; exact Table.rd_wr_self _ _ _
  have hactive : t.activeJob p = s.activeJob p := by
    rw [State.activeJob_of_enrolled hrd, State.activeJob_of_enrolled he]
  have hslot (i : Nat) : t.slot p i = s.slot p i := by rw [State.slot_of hrd, State.slot_of he]
  have hjob (g : Handle) : t.job g = s.job g := by rw [ht]; rfl
  have hopen (i : Nat) : t.openReorder p i = s.openReorder p i := by rw [ht]; rfl
  constructor
  · simp only [State.suspendedJob, hactive, hjob]
  · simp only [State.linkedReorder, hslot, hopen]

/-- Settles O44, by `State.openCallout_eq`: a fresh record and a CLEARED one are opened alike, but for the count. -/
theorem graceExpiryOpensCallouts : Obligations.GraceExpiryOpensCallouts := by
  refine ⟨fun s u p cls e count he hg hc hu => ?_, fun s p cls hn => ?_, fun s p cls code i hi => ⟨?_, fun hn => ?_⟩,
    fun s p h => State.suspendedJob_eq_some, fun s u p h ha hu => State.conditionRehold_eq ha hu⟩
  · refine congrArg (fun u : State => Host.Outcome.next u.serveChannels) ((State.graceExpired_due he hg).trans ?_)
    obtain ⟨hjob, hlink⟩ := State.grace_readings (cls := cls) (code := e.codes.get cls) (grace := e.grace.set cls none)
      he rfl
    rw [← hjob, ← hlink] at hu
    rw [← hjob]
    exact State.openCallout_eq hc hu
  · exact congrArg (fun u : State => Host.Outcome.next u.serveChannels) (State.graceExpired_early hn)
  · simp only [State.linkedReorder, slotEmptyOf_ofNat hi]
  · simp only [State.linkedReorder, slotEmptyOf_eq_none hn]

/-! ### ACKNOWLEDGE CALLOUT and CLOSE CALLOUT (R168) -/

theorem onCallout_named {work : CalloutNo → Callout → State → State × Option Reply} (hl : body.length = 2)
    (hn : u16 body 0 = n.val) (hy : s.callouts.rd n = some y) : onCallout body s work = work n y s := by
  simp only [onCallout, hl, ne_eq, not_true, if_false, numberBelow_of_eq hn, State.calloutOf_eq, hy]

theorem onCallout_noSuch {work : CalloutNo → Callout → State → State × Option Reply} (hl : body.length = 2)
    (hno : ∀ n : CalloutNo, u16 body 0 = n.val → s.callouts.rd n = none) (hlt : u16 body 0 < 192) :
    onCallout body s work = refuse .noSuch s := by
  have hn := hno ⟨u16 body 0, hlt⟩ rfl
  simp only [onCallout, hl, ne_eq, not_true, if_false, numberBelow_of_eq (i := ⟨u16 body 0, hlt⟩) rfl, State.calloutOf_eq, hn]

theorem onCallout_malformed {work : CalloutNo → Callout → State → State × Option Reply} (hl : body.length = 2)
    (hge : 192 ≤ u16 body 0) : onCallout body s work = refuse .malformed s := by
  simp only [onCallout, hl, ne_eq, not_true, if_false, numberBelow_eq_none hge]

/-- What a callout's change writes, the callout named by its number. -/
theorem State.setCallout_named (n : CalloutNo) (o : Option Callout) :
    s.setCallout (calloutPrinter n) (calloutClass n) o = { s with
      callouts := s.callouts.wr n o
      lines := s.lines.set (calloutClass n) (anyOpenCallout (s.callouts.wr n o) (calloutClass n)) } := by
  rw [State.setCallout, calloutNo_printer_class]

/-- Settles O60, by `onCallout_named`, its refusals, and `State.setCallout_named`. -/
theorem calloutsAreAcknowledgedAndClosed : Obligations.CalloutsAreAcknowledgedAndClosed := by
  refine ⟨fun s port tag body n x hl hn hx => ⟨fun h => ⟨fun hs => ?_, fun hs => ?_⟩, fun h => ⟨fun hs => ?_, fun hs => ?_⟩⟩,
    fun s port tag body hl => ⟨fun h => ⟨fun hno hlt => ?_, fun hge => ?_⟩, fun h => ⟨fun hno hlt => ?_, fun hge => ?_⟩⟩,
    fun callouts cls => anyOpenCallout_iff⟩
  · refine ⟨_, _, exec_accepted (r := .acknowledgeCallout) h
      ((onCallout_named (s := s.begun port .acknowledgeCallout tag) hl hn hx).trans (if_pos hs)), rfl, ?_⟩
    rw [State.setCallout_named]
    exact ⟨rfl, rfl⟩
  · exact exec_refused (r := .acknowledgeCallout) h
      ((onCallout_named (s := s.begun port .acknowledgeCallout tag) hl hn hx).trans (if_neg hs))
  · refine ⟨_, exec_accepted (r := .closeCallout) h
      ((onCallout_named (s := s.begun port .closeCallout tag) hl hn hx).trans (if_pos hs)), ?_⟩
    rw [State.setCallout_named]
    exact ⟨rfl, rfl⟩
  · exact exec_refused (r := .closeCallout) h
      ((onCallout_named (s := s.begun port .closeCallout tag) hl hn hx).trans (if_neg hs))
  · exact exec_refused (r := .acknowledgeCallout) h (onCallout_noSuch hl hno hlt)
  · exact exec_refused (r := .acknowledgeCallout) h (onCallout_malformed hl hge)
  · exact exec_refused (r := .closeCallout) h (onCallout_noSuch hl hno hlt)
  · exact exec_refused (r := .closeCallout) h (onCallout_malformed hl hge)

end Sys2Proof.Machine
end


section
/-! SUPPORT. Right after reset (11.3). -/

namespace Sys2Proof.Machine

theorem State.reset_ports (n : PortNo) : State.reset.ports.rd n = Port.fresh (if n = 0 then .facilities else .unbound) := by
  rw [State.reset]
  exact Table.rd_tab _ _

theorem State.reset_clockInRange : State.reset.ClockInRange := ⟨by decide, by decide⟩

/-- At reset no mark is set, and no service request line is asserted (log 24). -/
theorem State.reset_quiet : State.reset.Quiet := fun c k _ => by
  rw [State.reset]
  simp only [Table.rd_fill, and_true]
  intro kind
  cases kind <;> rfl

/-- Settles O3, block by block. -/
theorem resetStartsEveryBlock : Obligations.ResetStartsEveryBlock := by
  refine ⟨fun p => ?_, fun c => ?_, fun p kind => ?_, fun p => ?_, fun t => ?_, rfl, fun n => ?_, State.reset_freeList, rfl,
    fun t => ?_, fun p => ?_, rfl, rfl, rfl, rfl, fun n => ?_, fun cls => ?_, State.reset_ports, rfl⟩
  case refine_3 =>
    rw [State.reset, Table.rd_fill]
    cases kind <;> rfl
  case refine_4 =>
    rw [State.reset, Table.rd_fill]
    exact ⟨rfl, rfl, rfl⟩
  case refine_10 => cases cls <;> rfl
  all_goals
    rw [State.reset, Table.rd_fill]

/-- Settles O4, by one lemma for each invariant. -/
theorem resetMeetsTheInvariants : Obligations.ResetMeetsTheInvariants :=
  ⟨State.reset_clockInRange, State.reset_portsBound, State.reset_linesFollow, State.reset_quiet, State.reset_sessionsServed,
    State.reset_slotsDerived, State.reset_reordersKept, State.reset_booksKept, State.reset_reservationsAgree⟩

end Sys2Proof.Machine
end


section
/-! SUPPORT. Frames heard, reports examined, answers taken and timeouts (R27 to R36). -/

namespace Sys2Proof.Machine

variable {s t u v : State} {p : PrinterNo} {e : Enrolled} {cls : CondClass} {h : Handle} {j : Job} {cam : Bool}
  {c : ChannelNo} {k : PositionNo} {kind : Byte} {body : List Byte} {line : Bool} {sent : RiserRequest}
  {r : ReportRule} {a : ReportAnswer} {code : Byte}

/-! ### Frames heard (R29, R30) -/

theorem State.heard_of_enrolled (he : s.printers.rd p = .enrolled e) :
    s.heard p false = (s.setPosition p { s.positions.rd p with silence := some 20 }).clearNoAnswer p := by
  simp only [State.heard, State.enrolled_eq_some.mpr he]
  rfl

theorem State.clearNoAnswer_of_ne (he : s.printers.rd p = .enrolled e) (hn : e.codes.service ≠ 255) :
    s.clearNoAnswer p = s := by
  simp only [State.clearNoAnswer, State.enrolled_eq_some.mpr he]
  exact if_neg hn

theorem State.clearClass_of_zero (he : s.printers.rd p = .enrolled e) (hz : e.codes.get cls = 0) :
    s.clearClass p cls = s := by
  simp only [State.clearClass, State.enrolled_eq_some.mpr he, hz, if_true]

theorem State.clearClass_of_ne (he : s.printers.rd p = .enrolled e) (hz : e.codes.get cls ≠ 0) :
    s.clearClass p cls = (s.setClass p e cls 0 none).clearCallout p cls := by
  simp only [State.clearClass, State.enrolled_eq_some.mpr he, hz, if_false]

theorem State.clearNoAnswer_of_eq (he : s.printers.rd p = .enrolled e) (hn : e.codes.service = 255) :
    s.clearNoAnswer p = (s.setClass p e .service 0 none).clearCallout p .service := by
  have hz : e.codes.get .service ≠ 0 := fun h => absurd (hn.symm.trans h) (by decide)
  rw [← State.clearClass_of_ne he hz]
  simp only [State.clearNoAnswer, State.enrolled_eq_some.mpr he]
  exact if_pos hn

theorem State.clearCallout_of_uncleared {x : Callout} (hx : s.callouts.rd (calloutNo p cls) = some x)
    (hs : x.state ≠ .cleared) : s.clearCallout p cls
      = (s.setCallout p cls (some { x with state := .cleared })).raise .calloutCleared toFacilities := by
  have hc : s.callout p cls = some x := hx
  cases hst : x.state with
  | cleared => exact absurd hst hs
  | _ => simp only [State.clearCallout, hc, hst]

theorem State.clearCallout_of_cleared (hx : ∀ x, s.callouts.rd (calloutNo p cls) = some x → x.state = .cleared) :
    s.clearCallout p cls = s := by
  cases hc : s.callout p cls with
  | none => simp only [State.clearCallout, hc]
  | some x => simp only [State.clearCallout, hc, hx x hc]

theorem State.adapterFrame_stray {cls : Byte} (hb : body.length ≤ 48)
    (h2 : cls = 2 → ∀ sent, s.Asked c k sent → sent.kind.code ≠ kind.toNat) (h3 : cls = 3 → ¬ s.Called c k) :
    s.adapterFrame c k cls kind body line = s.heard (printerAt c k) false := by
  have hlen : ¬ riserBodyMax < body.length := Nat.not_lt.mpr hb
  by_cases hc2 : cls = 2
  · simp only [State.adapterFrame, hc2, if_true, State.answerFrame, hlen, if_false]
    cases hch : s.channels.rd c with
    | awaitingAnswer k' sent timer =>
      refine if_neg fun ⟨hk, hcode⟩ => h2 hc2 sent ⟨timer, hk ▸ hch⟩ hcode
    | _ => rfl
  · by_cases hc3 : cls = 3
    · simp only [State.adapterFrame, hc3, if_true, State.reportFrame, hlen, if_false]
      rw [if_neg (by decide)]
      cases hch : s.channels.rd c with
      | awaitingReport k' timer => exact if_neg fun (hk : k' = k) => h3 hc3 ⟨timer, hk ▸ hch⟩
      | _ => rfl
    · simp only [State.adapterFrame, hc2, hc3, if_false, hlen]

/-- Settles O46, by the equations of `State.heard`, `State.clearCallout` and `State.adapterFrame`. -/
theorem strayFramesAreOnlyHeard : Obligations.StrayFramesAreOnlyHeard := by
  refine ⟨fun s p hn => State.heard_of_not_enrolled false hn, fun s p e he => ⟨fun hn => ?_, fun hn => ?_⟩,
    fun s p cls => ⟨fun x hx hs => ?_, fun hx => State.clearCallout_of_cleared hx⟩,
    fun s c k cls kind body hb h2 h3 => congrArg Host.Outcome.next (State.adapterFrame_stray hb h2 h3),
    fun s c bytes => ⟨fun hr => ?_, fun f hr => ?_⟩⟩
  · exact (State.heard_of_enrolled he).trans (State.clearNoAnswer_of_ne he hn)
  · exact (State.heard_of_enrolled he).trans (State.clearNoAnswer_of_eq he hn)
  · exact ⟨_, State.clearCallout_of_uncleared hx hs, rfl, rfl⟩
  · change execRiserFrameDiscarded c bytes s = .next s
    simp only [execRiserFrameDiscarded, hr]
  · change execRiserFrameDiscarded c bytes s = execStrayFrame c f.position f.cls f.kind f.body s
    simp only [execRiserFrameDiscarded, hr, execStrayFrame]

/-! ### Reports examined (R33, R34) -/

/-- A report that reaches its examination without being a CONDITION of class SERVICE. -/
theorem reportFrame_examined (h : s.Called c k) (hb : body.length ≤ 48) (hn : ¬ (kind = 0 ∧ body = []))
    (hs : ¬ (kind = 0x17 ∧ body.length = 2 ∧ u8 body 0 = 3))
    (hx : examineReport kind (printerAt c k) body (s.heard (printerAt c k) false) = (t, a)) :
    s.reportFrame c k kind body line = (t.endReport c k line (some a)).serveChannels := by
  refine reportFrame_called h hb hn ?_
  have hf : isServiceCondition kind body = false := by
    simp only [isServiceCondition, Bool.and_eq_false_iff, decide_eq_false_iff_not]
    tauto
  rw [hf]
  exact hx

/-- A report that reaches its owner, from an enrolled printer. -/
theorem reportFrame_taken (h : s.Called c k) (hp : p = printerAt c k) (hu : u = s.heard p false)
    (he : u.printers.rd p = .enrolled e) (hr : reportRule kind = some r) (hl : body.length = r.length)
    (hb : r.length ≤ 48) (hn : kind ≠ 0) (hs : ¬ (kind = 0x17 ∧ body.length = 2 ∧ u8 body 0 = 3))
    (hj : r.namesJob = true → e.activeJob = some (handleAt body 0)) (hx : takeReport r.kind p body u = (t, a)) :
    s.reportFrame c k kind body line = (t.endReport c k line (some a)).serveChannels := by
  subst hp hu
  exact reportFrame_examined h (hl ▸ hb) (fun h => hn h.1) hs ((examineReport_taken he hr hl hj).trans hx)

theorem reportRule_eq_none (h : kind.toNat < 16 ∨ 24 < kind.toNat) : reportRule kind = none := by
  unfold reportRule
  split
  case h_10 => rfl
  all_goals omega

theorem examineReport_of_not_enrolled (he : s.enrolled p = none) :
    examineReport kind p body s = (s, .stale .notEnrolled) := by
  simp only [examineReport, he]

theorem examineReport_unknown (he : s.printers.rd p = .enrolled e) (hr : reportRule kind = none) :
    examineReport kind p body s = (s, .stale .unknownKind) := by
  simp only [examineReport, State.enrolled_eq_some.mpr he, hr]

theorem examineReport_length (he : s.printers.rd p = .enrolled e) (hr : reportRule kind = some r)
    (hl : body.length ≠ r.length) : examineReport kind p body s = (s, .stale .malformed) := by
  simp only [examineReport, State.enrolled_eq_some.mpr he, hr, ne_eq, hl, not_false_eq_true, if_true]

theorem examineReport_notActive (he : s.printers.rd p = .enrolled e) (hr : reportRule kind = some r)
    (hl : body.length = r.length) (hj : r.namesJob = true) (ha : e.activeJob ≠ some (handleAt body 0)) :
    examineReport kind p body s = (s, .stale .notActive) := by
  simp only [examineReport, State.enrolled_eq_some.mpr he, hr, hl, ne_eq, not_true, if_false, hj, ha, not_false_eq_true,
    decide_true, Bool.and_self, if_true]

/-- Settles O47, by one lemma for each test of `examineReport`. -/
theorem reportsAreExaminedInOrder : Obligations.ReportsAreExaminedInOrder := by
  refine ⟨fun s c k line a => rfl, fun s c k line h => ?_, fun s c k kind body line h hb hn hs => ⟨fun he => ?_,
      fun e he => ?_⟩, fun c k body line s => ⟨rfl, rfl, rfl, rfl, rfl, rfl, rfl, rfl, rfl⟩, by decide⟩
  · obtain ⟨timer, hc⟩ := h
    refine congrArg Host.Outcome.next (?_ : s.reportFrame c k 0 [] line = _)
    simp only [State.reportFrame, hc, if_true, and_self, List.length_nil, Nat.not_lt_zero, if_false]
    simp only [State.endReport, State.setLine, State.setChannel, State.heard_serviceLines, State.heard_channels]
  · have hx := examineReport_of_not_enrolled (kind := kind) (body := body) he
    rw [← State.heard_of_not_enrolled false he] at hx
    refine congrArg Host.Outcome.next ((reportFrame_examined h hb hn hs hx).trans ?_)
    rw [State.heard_of_not_enrolled false he]
  · obtain ⟨codes, grace, he'⟩ := State.heard_enrolled false he
    refine ⟨fun hk => ?_, fun r hr hl => ?_, fun r hr hl hj ha => ?_⟩
    · exact congrArg Host.Outcome.next (reportFrame_examined h hb hn hs
        (examineReport_unknown he' (reportRule_eq_none hk)))
    · exact congrArg Host.Outcome.next (reportFrame_examined h hb hn hs (examineReport_length he' hr hl))
    · exact congrArg Host.Outcome.next (reportFrame_examined h hb hn hs (examineReport_notActive he' hr hl hj ha))

/-! ### Answers to requests (R27, R93, R94) -/

theorem State.grantAccepted_of_granted (he : s.printers.rd p = .enrolled e) (hj : s.job h = some j)
    (hs : j.state = .granted p cam none) : s.grantAccepted h p = { s with
      jobs := s.jobs.wr h.record ⟨h.generation, some { j with
        state := .granted p cam (some e.descriptor.startLimit) }⟩ } := by
  simp only [State.grantAccepted, State.enrolled_eq_some.mpr he, State.grantedAt_eq_some.mpr ⟨hj, hs⟩]
  exact State.setJob_of_job hj _

theorem State.grantRefused_of_granted {timer : Option Nat} (hj : s.job h = some j) (hs : j.state = .granted p cam timer)
    (hv : s.rehold h p = some v) : s.grantRefused h p = (v.setMark p .revoke).endSession p .grantRefused := by
  simp only [State.grantRefused, State.grantedAt_eq_some.mpr ⟨hj, hs⟩]
  exact State.releaseRehold_eq hv

theorem State.grantAnswered_of_not_granted (hn : s.grantedAt h p = none) : s.grantAnswered h p body = s := by
  unfold State.grantAnswered State.grantAccepted State.grantRefused
  rw [hn]
  split
  · cases s.enrolled p <;> rfl
  · rfl

/-- The requests whose answers are only heard (R27). -/
theorem State.answered_of_acknowledged (hc : sent.kind.code = kind.toNat) (hk : kind = 1 ∨ kind = 3 ∨ kind = 4) :
    s.answered p sent body = s := by
  have hcode : sent.kind.code = 1 ∨ sent.kind.code = 3 ∨ sent.kind.code = 4 := by
    rw [hc]
    obtain rfl | rfl | rfl := hk
    · exact .inl rfl
    · exact .inr (.inl rfl)
    · exact .inr (.inr rfl)
  cases sent with
  | describe => exact absurd hcode (by decide)
  | grant h spool t resume cam => exact absurd hcode (by change ¬ (2 = 1 ∨ 2 = 3 ∨ 2 = 4); decide)
  | probe b => exact absurd hcode (by change ¬ (6 = 1 ∨ 6 = 3 ∨ 6 = 4); decide)
  | _ => rfl

/-- Settles O48, by `answerFrame_asked` and what the answer to each request does. -/
theorem answersAreTaken : Obligations.AnswersAreTaken := by
  intro s u c k sent body hask hb hu
  have hu' : (s.heard (printerAt c k) false).setChannel c .idle = u := by
    rw [hu, State.setChannel, State.heard_channels]
  have hframe {kind : Byte} (hk : sent.kind.code = kind.toNat) :
      s.answerFrame c k kind body = (u.answered (printerAt c k) sent body).serveChannels := by
    rw [answerFrame_asked hask hb hk, hu']
  have hjob (h : Handle) : u.job h = s.job h := by
    rw [hu]
    exact State.heard_job false h
  have hjobs : u.jobs = s.jobs := by
    rw [hu]
    exact State.heard_jobs false
  refine ⟨?_, fun kind hc hk => ?_, ?_, ?_⟩
  · rintro h spool t resume cam rfl
    refine ⟨fun e j cam' he hj hbody hs => ?_, fun j cam' timer v hj hbody hs hv => ?_, fun hn => ?_⟩
    · obtain ⟨codes, grace, he'⟩ := State.heard_enrolled false he
      have heu : u.printers.rd (printerAt c k) = .enrolled { e with codes := codes, grace := grace } := by
        rw [hu]
        exact he'
      refine congrArg Host.Outcome.next ((hframe (kind := 2) rfl).trans (congrArg State.serveChannels ?_))
      refine (if_pos hbody).trans ((State.grantAccepted_of_granted heu ((hjob h).trans hj) hs).trans ?_)
      rw [hjobs]
    · refine congrArg Host.Outcome.next ((hframe (kind := 2) rfl).trans (congrArg State.serveChannels ?_))
      exact (if_neg hbody).trans (State.grantRefused_of_granted ((hjob h).trans hj) hs hv)
    · refine congrArg Host.Outcome.next ((hframe (kind := 2) rfl).trans (congrArg State.serveChannels ?_))
      refine State.grantAnswered_of_not_granted (State.grantedAt_eq_none.mpr fun j cam' timer hj => ?_)
      exact hn j cam' timer ((hjob h).symm.trans hj)
  · exact congrArg Host.Outcome.next ((hframe hc).trans (congrArg State.serveChannels
      (State.answered_of_acknowledged hc hk)))
  · rintro rfl
    exact congrArg Host.Outcome.next (hframe (kind := 6) rfl)
  · rintro rfl
    exact congrArg Host.Outcome.next (hframe (kind := 6) rfl)

/-! ### Timeouts (R28, R36) -/

theorem State.requestTimeout_asked (h : s.Asked c k sent) (he : (s.enrolled (printerAt c k)).isSome = true) :
    s.requestTimeout c = (s.setChannel c .idle).raiseNoAnswer (printerAt c k) := by
  obtain ⟨timer, hc⟩ := h
  obtain ⟨e, he⟩ := Option.isSome_iff_exists.mp he
  simp only [State.requestTimeout, hc, State.setChannel_printers, State.enrolled_eq_some.mp he]

theorem State.requestTimeout_enrolling {sh : Sharing} {who : Option (PortNo × Byte)} (h : s.Asked c k sent)
    (he : s.printers.rd (printerAt c k) = .enrolling sh who) :
    s.requestTimeout c = if sent = .describe then (s.setChannel c .idle).failEnrolment (printerAt c k) who .noAnswer
      else s.setChannel c .idle := by
  obtain ⟨timer, hc⟩ := h
  simp only [State.requestTimeout, hc, State.setChannel_printers, he]

theorem State.requestTimeout_absent (h : s.Asked c k sent) (he : s.printers.rd (printerAt c k) = .absent) :
    s.requestTimeout c = s.setChannel c .idle := by
  obtain ⟨timer, hc⟩ := h
  simp only [State.requestTimeout, hc, State.setChannel_printers, he]

theorem State.requestTimeout_none (h : ∀ k sent, ¬ s.Asked c k sent) : s.requestTimeout c = s := by
  cases hc : s.channels.rd c with
  | awaitingAnswer k sent timer => exact absurd ⟨timer, hc⟩ (h k sent)
  | _ => simp only [State.requestTimeout, hc]

theorem State.callTimeout_called (h : s.Called c k) :
    s.callTimeout c = (s.setChannel c .idle).raiseNoAnswer (printerAt c k) := by
  obtain ⟨timer, hc⟩ := h
  simp only [State.callTimeout, hc]

theorem State.callTimeout_none (h : ∀ k, ¬ s.Called c k) : s.callTimeout c = s := by
  cases hc : s.channels.rd c with
  | awaitingReport k timer => exact absurd ⟨timer, hc⟩ (h k)
  | _ => simp only [State.callTimeout, hc]

theorem State.raiseCode_of_not_enrolled {noAnswer : Bool} (hn : s.enrolled p = none) :
    s.raiseCode p cls code noAnswer = s := by
  simp only [State.raiseCode, hn]

/-- Settles O49, by what each timeout does at each state of the printer. -/
theorem timeoutsRaiseNoAnswer : Obligations.TimeoutsRaiseNoAnswer := by
  refine ⟨fun s c k sent hask => ⟨fun he => ?_, fun sh port tag he hd ho => ?_, fun sh who he hd => ?_, fun he => ?_⟩,
    fun s c k hcall => ⟨fun he => ?_, fun he => ?_⟩, fun s c => ⟨fun hn => ?_, fun hn => ?_⟩⟩
  · exact congrArg (fun u : State => Host.Outcome.next u.serveChannels) (State.requestTimeout_asked hask he)
  · refine congrArg (fun u : State => Host.Outcome.next u.serveChannels) ((State.requestTimeout_enrolling hask he).trans
      ((if_pos hd).trans ?_))
    rw [State.failEnrolment, State.answerEnrolment_waiting (by exact ho)]
    rfl
  · exact congrArg (fun u : State => Host.Outcome.next u.serveChannels) ((State.requestTimeout_enrolling hask he).trans
      (if_neg hd))
  · exact congrArg (fun u : State => Host.Outcome.next u.serveChannels) (State.requestTimeout_absent hask he)
  · exact congrArg (fun u : State => Host.Outcome.next u.serveChannels) (State.callTimeout_called hcall)
  · exact congrArg (fun u : State => Host.Outcome.next u.serveChannels) ((State.callTimeout_called hcall).trans
      (State.raiseCode_of_not_enrolled he))
  · exact congrArg (fun u : State => Host.Outcome.next u.serveChannels) (State.requestTimeout_none hn)
  · exact congrArg (fun u : State => Host.Outcome.next u.serveChannels) (State.callTimeout_none hn)

end Sys2Proof.Machine
end


section
/-! SUPPORT. Presentations and selections (R81 to R85, R88). -/

namespace Sys2Proof.Machine

variable {s t u v w : State} {p q : PrinterNo} {e : Enrolled} {h : Handle} {j : Job} {x : Session} {a : Account}
  {c : ChannelNo} {k : PositionNo} {body : List Byte} {line : Bool} {reason : EndReason} {digest : Word32}
  {key : AccountKey} {n : RecordNo}

theorem Enrolled.conditionsClear_iff : e.conditionsClear = true ↔ e.codes = ⟨0, 0, 0⟩ := by
  rw [Enrolled.conditionsClear]
  obtain ⟨a, b, c⟩ := e.codes
  simp only [Bool.and_eq_true, decide_eq_true_eq, PerClass.mk.injEq, and_assoc]

theorem Enrolled.conditionsClear_false (hc : e.codes ≠ ⟨0, 0, 0⟩) : e.conditionsClear = false :=
  Bool.eq_false_iff.mpr fun h => hc (Enrolled.conditionsClear_iff.mp h)

/-! ### The tests of a presentation (Table 5.2) -/

theorem State.accountOfDigest_eq_none (hd : digest = 0 ∨ ∀ a ∈ s.accounts, a.credential ≠ some digest) :
    s.accountOfDigest digest = none := by
  unfold State.accountOfDigest
  split
  · rfl
  · next h0 =>
    refine List.find?_eq_none.mpr fun a ha => ?_
    rw [decide_eq_true_eq]
    exact hd.resolve_left h0 a ha

/-- The account of the active job is the presented one, or another. -/
theorem State.activeAccount_other (he : s.printers.rd p = .enrolled e) : (s.activeAccount p).any (· ≠ key) = true
    ↔ ∃ h j, e.activeJob = some h ∧ s.job h = some j ∧ j.owner ≠ key := by
  simp only [State.activeAccount, State.activeJob_of_enrolled he, Option.any_eq_true, Option.map_eq_some_iff,
    Option.bind_eq_some_iff, decide_eq_true_eq]
  constructor
  · rintro ⟨_, ⟨j, ⟨h, hh, hj⟩, rfl⟩, hk⟩
    exact ⟨h, j, hh, hj, hk⟩
  · rintro ⟨h, j, hh, hj, hk⟩
    exact ⟨_, ⟨j, ⟨h, hh, hj⟩, rfl⟩, hk⟩

theorem State.activeAccount_same (he : s.printers.rd p = .enrolled e)
    (hn : ∀ h j, e.activeJob = some h → s.job h = some j → j.owner = key) : (s.activeAccount p).any (· ≠ key) = false :=
  Bool.eq_false_iff.mpr fun hc => by
    obtain ⟨h, j, hh, hj, hk⟩ := (State.activeAccount_other he).mp hc
    exact hk (hn h j hh hj)

theorem State.releasingElsewhere_iff : s.releasingElsewhere a p = true
    ↔ ∃ q x, a.session = some q ∧ q ≠ p ∧ s.sessions.rd q = some x ∧ x.releasing = true := by
  unfold State.releasingElsewhere
  cases ha : a.session with
  | none => simp
  | some q => simp [Option.any_eq_true]

theorem State.releasingElsewhere_false (hn : ∀ q x, a.session = some q → q ≠ p → s.sessions.rd q = some x →
    x.releasing = false) : s.releasingElsewhere a p = false :=
  Bool.eq_false_iff.mpr fun hc => by
    obtain ⟨q, x, hq, hne, hx, hr⟩ := State.releasingElsewhere_iff.mp hc
    exact Bool.false_ne_true ((hn q x hq hne hx).symm.trans hr)

/-- The tests that follow once the printer serves and is clear. -/
theorem State.presentation_of_account (hv : e.service = .inService) (hc : e.codes = ⟨0, 0, 0⟩)
    (ha : s.accountOfDigest digest = some a) : s.presentation p e digest = if a.barred = true then .inl .accountBarred
      else if e.sharing.gives a.key.tenant = false then .inl .noAccess
      else if (s.activeAccount p).any (· ≠ a.key) = true then .inl .printerBusy
      else if s.releasingElsewhere a p = true then .inl .accountInSession else .inr a := by
  simp only [State.presentation, hv, ne_eq, not_true, if_false, Enrolled.conditionsClear_iff.mpr hc, Bool.not_true,
    Bool.false_eq_true, ha, Bool.not_eq_true']

theorem State.presentation_outOfService (hv : e.service ≠ .inService) :
    s.presentation p e digest = .inl .outOfService := if_pos hv

theorem State.presentation_stopped (hv : e.service = .inService) (hc : e.codes ≠ ⟨0, 0, 0⟩) :
    s.presentation p e digest = .inl .printerStopped := by
  simp only [State.presentation, hv, ne_eq, not_true, if_false, Enrolled.conditionsClear_false hc, Bool.not_false, if_true]

theorem State.presentation_unknown (hv : e.service = .inService) (hc : e.codes = ⟨0, 0, 0⟩)
    (ha : s.accountOfDigest digest = none) : s.presentation p e digest = .inl .unknownBadge := by
  simp only [State.presentation, hv, ne_eq, not_true, if_false, Enrolled.conditionsClear_iff.mpr hc, Bool.not_true,
    Bool.false_eq_true, ha]

theorem State.presentation_accepted (he : s.printers.rd p = .enrolled e) (hv : e.service = .inService)
    (hc : e.codes = ⟨0, 0, 0⟩) (ha : s.accountOfDigest digest = some a) (hb : a.barred = false)
    (hg : e.sharing.gives a.key.tenant = true)
    (hown : ∀ h j, e.activeJob = some h → s.job h = some j → j.owner = a.key)
    (hels : ∀ q x, a.session = some q → q ≠ p → s.sessions.rd q = some x → x.releasing = false) :
    s.presentation p e digest = .inr a := by
  rw [State.presentation_of_account hv hc ha, if_neg (by simp [hb]), if_neg (by simp [hg]),
    if_neg (Bool.eq_false_iff.mp (State.activeAccount_same he hown)),
    if_neg (Bool.eq_false_iff.mp (State.releasingElsewhere_false hels))]

/-! ### What a presentation does (R82 to R84) -/

theorem State.refusePresentation_eq : s.refusePresentation p reason = { s with
    positions := s.positions.wr p { s.positions.rd p with
      endSession := true, endReason := some reason
      showList := (s.positions.rd p).showList || (s.sessions.rd p).any fun x => !x.releasing } } := by
  unfold State.refusePresentation
  dsimp only
  cases (s.sessions.rd p).any fun x => !x.releasing with
  | false =>
    rw [Bool.or_false]
    rfl
  | true =>
    rw [Bool.or_true, if_pos rfl, State.setMark, State.setEndSession, State.setPosition, State.setPosition, Table.rd_wr_self,
      Table.wr_wr_self]
    rfl

/-- A session elsewhere that a presentation ends stands at another printer. -/
theorem State.moveAway_sessions : (s.moveAway p a).sessions.rd p = s.sessions.rd p := by
  obtain ⟨h, -⟩ | ⟨q, -, hne, h⟩ := s.moveAway_cases p a
  · rw [h]
  · rw [h, State.endSession_sessions, if_neg hne]

theorem State.acceptPresentation_opens (hw : s.sessions.rd p = none ∧ w = s.moveAway p a
      ∨ ∃ x, s.sessions.rd p = some x ∧ x.account ≠ a.key ∧ w = (s.moveAway p a).endSession p .takenOver) :
    s.acceptPresentation p e a = w.openSession p a.key e.descriptor.window := by
  rw [State.acceptPresentation_eq, State.moveAway_sessions]
  obtain ⟨hx, rfl⟩ | ⟨x, hx, hk, rfl⟩ := hw
  · rw [hx]
  · rw [hx]
    exact if_neg hk

theorem State.acceptPresentation_refreshes (hx : s.sessions.rd p = some x) (hk : x.account = a.key) :
    s.acceptPresentation p e a = (s.moveAway p a).refreshSession p x e.descriptor.window := by
  rw [State.acceptPresentation_eq, State.moveAway_sessions, hx]
  exact if_pos hk

theorem exec_present (h : s.Called c k) (hp : p = printerAt c k) (hl : body.length = 4) (hu : u = s.heard p false)
    (he : u.printers.rd p = .enrolled e) (ht : takePresent p body u = (t, .taken)) :
    exec (.present c k body line) s = .next (t.endReport c k line (some .taken)).serveChannels :=
  congrArg Host.Outcome.next (reportFrame_taken (kind := 0x10) (r := ⟨4, false, 0x10⟩) h hp hu he rfl hl (by decide)
    (by decide) (by simp) nofun ht)

/-- Settles O50, by `State.presentation_of_account` for the tests and `State.acceptPresentation_opens` and
`_refreshes` for their outcome. -/
theorem presentationIsExaminedAndTaken : Obligations.PresentationIsExaminedAndTaken := by
  intro s u c k p body line e hcall hp hl hu he
  have haccounts : u.accounts = s.accounts := hu ▸ State.heard_accounts false
  have hsessions : u.sessions = s.sessions := hu ▸ State.heard_sessions false
  have hjob (h : Handle) : u.job h = s.job h := hu ▸ State.heard_job false h
  refine ⟨fun reason htest => ?_, fun a v hv hc ha hb hg hown hels hmove => ?_⟩
  · refine exec_present hcall hp hl hu he ?_
    have hinl : u.presentation p e (u32 body 0) = .inl reason := by
      obtain ⟨hv, rfl⟩ | ⟨hv, hc, rfl⟩ | ⟨hv, hc, rfl, hd⟩ | ⟨hv, hc, a, ha, hcase⟩ := htest
      · exact State.presentation_outOfService hv
      · exact State.presentation_stopped hv hc
      · exact State.presentation_unknown hv hc (State.accountOfDigest_eq_none (haccounts ▸ hd))
      · rw [State.presentation_of_account hv hc ha]
        obtain ⟨hb, rfl⟩ | ⟨hb, hg, rfl⟩ | ⟨hb, hg, rfl, h, j, hact, hj, ho⟩
          | ⟨hb, hg, rfl, hown, q, x, hq, hne, hx, hr⟩ := hcase
        · rw [if_pos hb]
        · rw [if_neg (by simp [hb]), if_pos hg]
        · rw [if_neg (by simp [hb]), if_neg (by simp [hg]),
            if_pos ((State.activeAccount_other he).mpr ⟨h, j, hact, (hjob h).trans hj, ho⟩)]
        · rw [if_neg (by simp [hb]), if_neg (by simp [hg]),
            if_neg (Bool.eq_false_iff.mp (State.activeAccount_same he fun h j hh hj =>
              hown h j hh ((hjob h).symm.trans hj))),
            if_pos (State.releasingElsewhere_iff.mpr ⟨q, x, hq, hne, hsessions ▸ hx, hr⟩)]
    simp only [takePresent, State.enrolled_eq_some.mpr he, hinl, State.refusePresentation_eq, hsessions]
  · have hinr : u.presentation p e (u32 body 0) = .inr a :=
      State.presentation_accepted he hv hc ha hb hg (fun h j hh hj => hown h j hh ((hjob h).symm.trans hj))
        fun q x hq hne hx => hels q x hq hne (hsessions ▸ hx)
    have hv' : v = u.moveAway p a := by
      rw [hmove, State.moveAway]
      cases hq : a.session with
      | none => rfl
      | some q =>
        by_cases hqp : q = p
        · simp only [hqp, if_true, ne_eq, not_true, if_false]
        · simp only [hqp, if_false, ne_eq, not_false_eq_true, if_true]
    subst hv'
    refine ⟨fun w hw => ?_, fun x hx hk => ?_⟩
    · refine exec_present hcall hp hl hu he ?_
      simp only [takePresent, State.enrolled_eq_some.mpr he, hinr]
      rw [State.acceptPresentation_opens (w := w) (by rw [hsessions]; exact hw)]
      rfl
    · refine exec_present hcall hp hl hu he ?_
      simp only [takePresent, State.enrolled_eq_some.mpr he, hinr]
      rw [State.acceptPresentation_refreshes (hsessions ▸ hx) hk]
      rfl

/-! ### The eligible list (R85) -/

/-- A sublist of a list without repetitions that holds exactly its members that pass a test. -/
theorem filter_eq_of_sublist {α : Type} {test : α → Bool} {l m : List α} (hs : l.Sublist m) (hn : m.Nodup)
    (hl : ∀ n ∈ m, n ∈ l ↔ test n = true) : m.filter test = l := by
  induction hs with
  | slnil => rfl
  | cons a hs ih =>
    obtain ⟨ha, hn⟩ := List.nodup_cons.mp hn
    have htest : ¬ test a = true := fun ht => ha (hs.subset ((hl a List.mem_cons_self).mpr ht))
    rw [List.filter_cons_of_neg htest]
    exact ih hn fun n hm => hl n (List.mem_cons_of_mem _ hm)
  | cons_cons a hs ih =>
    obtain ⟨ha, hn⟩ := List.nodup_cons.mp hn
    rw [List.filter_cons_of_pos ((hl a List.mem_cons_self).mp List.mem_cons_self)]
    refine congrArg (a :: ·) (ih hn fun n hm => ?_)
    rw [← hl n (List.mem_cons_of_mem _ hm), List.mem_cons]
    exact (or_iff_right fun e : n = a => ha (e ▸ hm)).symm

/-! ### Selections (R88) -/

theorem State.selectable_iff_qualifies : s.selectable p e key h = true
    ↔ ∃ j, s.job h = some j ∧ s.qualifies p e key h.record = true ∧ j.holdMinutes ≠ 0 := by
  constructor
  · intro hs
    obtain ⟨j, hj, ho, hst, hr, hf, hp, hx⟩ := State.selectable_iff.mp hs
    refine ⟨j, hj, State.qualifies_iff.mpr ⟨j, State.jobAt_of_job hj, ho, hst, ?_, hf, hp⟩, ?_⟩
    · rwa [State.handleOf_of_job hj]
    · simpa [Job.expiryDue, hst] using hx
  · rintro ⟨j, hj, hq, hm⟩
    obtain ⟨i, hi, ho, hst, hr, hf, hp⟩ := State.qualifies_iff.mp hq
    rw [State.jobAt_of_job hj, Option.some.injEq] at hi
    subst hi
    rw [State.handleOf_of_job hj] at hr
    exact State.selectable_iff.mpr ⟨j, hj, ho, hst, hr, hf, hp, by simp [Job.expiryDue, hm]⟩

/-- What the appending adds: handles of the offered ones, in their order, without repetition, each of which may be
chosen, and all of those while there is room. -/
theorem State.appendChosen_appends (hs release : List Handle) : ∃ new, s.appendChosen p e key hs release = release ++ new
    ∧ new.Sublist hs ∧ new.Nodup ∧ (release.length ≤ 8 → (release ++ new).length ≤ 8)
    ∧ (∀ h ∈ new, h ∉ release ∧ s.selectable p e key h = true)
    ∧ ∀ h ∈ hs, s.selectable p e key h = true → h ∈ release ++ new ∨ 8 ≤ (release ++ new).length := by
  induction hs generalizing release with
  | nil => exact ⟨[], by simp [State.appendChosen], .slnil, .nil, by simp, by simp, by simp⟩
  | cons h hs ih =>
    by_cases hc : release.length < 8 ∧ h ∉ release ∧ s.selectable p e key h
    · obtain ⟨new, heq, hsub, hnd, hlen, hnew, hall⟩ := ih (release ++ [h])
      have hassoc : release ++ [h] ++ new = release ++ h :: new := by simp
      rw [hassoc] at heq hlen hall
      refine ⟨h :: new, ?_, hsub.cons_cons h, List.nodup_cons.mpr ⟨fun hm => ?_, hnd⟩, fun _ => hlen ?_, fun g hg => ?_,
        fun g hg hsel => ?_⟩
      · rw [State.appendChosen, if_pos hc, heq]
      · exact (hnew h hm).1 (by simp)
      · rw [List.length_append, List.length_singleton]
        omega
      · obtain rfl | hg := List.mem_cons.mp hg
        · exact ⟨hc.2.1, hc.2.2⟩
        · exact ⟨fun hm => (hnew g hg).1 (List.mem_append_left _ hm), (hnew g hg).2⟩
      · obtain rfl | hg := List.mem_cons.mp hg
        · exact .inl (by simp)
        · exact hall g hg hsel
    · obtain ⟨new, heq, hsub, hnd, hlen, hnew, hall⟩ := ih release
      refine ⟨new, ?_, hsub.cons h, hnd, hlen, hnew, fun g hg hsel => ?_⟩
      · rw [State.appendChosen, if_neg hc, heq]
      · obtain rfl | hg := List.mem_cons.mp hg
        · by_cases hroom : release.length < 8
          · by_cases hm : g ∈ release
            · exact .inl (List.mem_append_left _ hm)
            · exact absurd ⟨hroom, hm, hsel⟩ hc
          · refine .inr ?_
            rw [List.length_append]
            omega
        · exact hall g hg hsel

theorem selectedPositions_filterMap (body : List Byte) (f : Fin 8 → Option Handle) : (selectedPositions body).filterMap f
    = (List.finRange 8).filterMap fun i => if u8 body 1 ≠ 0 ∨ (u8 body 0).testBit i.val = true then f i else none := by
  rw [selectedPositions, List.filterMap_filter]
  refine List.filterMap_congr fun i _ => ?_
  simp only [Bool.or_eq_true, decide_eq_true_eq]

theorem exec_select {ans : ReportAnswer} (h : s.Called c k) (hp : p = printerAt c k) (hl : body.length = 2) (hu : u = s.heard p false)
    (he : u.printers.rd p = .enrolled e) (ht : takeSelect p body u = (t, ans)) :
    exec (.select c k body line) s = .next (t.endReport c k line (some ans)).serveChannels :=
  congrArg Host.Outcome.next (reportFrame_taken (kind := 0x11) (r := ⟨2, false, 0x11⟩) h hp hu he rfl hl (by decide)
    (by decide) (by simp) nofun ht)

/-- A SELECT whose session may be added to. -/
theorem takeSelect_of_session (he : s.printers.rd p = .enrolled e) (hx : s.sessions.rd p = some x)
    (hr : x.releasing = true → x.loggedOut = false) : takeSelect p body s
      = if (s.chosenList p e x body).length = x.release.length then (s.setMark p .showList, .taken)
        else ((s.setSession p (some { x with
          releasing := true, window := none, release := s.chosenList p e x body })).grantAttempt p, .taken) := by
  have hn : (x.releasing && x.loggedOut) = false := by
    cases hrel : x.releasing with
    | false => rfl
    | true => exact hr hrel
  simp only [takeSelect, State.enrolled_eq_some.mpr he, hx, hn, Bool.false_eq_true, if_false]

theorem takeSelect_stale (hn : ∀ x, s.sessions.rd p = some x → x.releasing = true ∧ x.loggedOut = true) :
    takeSelect p body s = (s, .stale .sessionEnded) := by
  unfold takeSelect
  cases s.enrolled p with
  | none => rfl
  | some e =>
    cases hx : s.sessions.rd p with
    | none => rfl
    | some x =>
      obtain ⟨hr, ho⟩ := hn x hx
      simp only [hr, ho, Bool.and_self, if_true]

theorem State.chosenList_appends (x : Session) (body : List Byte) : ∃ new, s.chosenList p e x body = x.release ++ new :=
  (s.appendChosen_appends _ x.release).imp fun _ h => h.1

/-- Settles O52, by `State.appendChosen_appends`, the recursion over the chosen handles. -/
theorem selectionChoosesEligibleJobs : Obligations.SelectionChoosesEligibleJobs := by
  refine ⟨⟨fun s p e key n => State.qualifies_iff.trans ?_, fun s p e key l hs hl hn => ?_⟩, fun s p e x body => ?_,
    fun s u c k p body line e hcall hp hl hu he => ⟨fun x hx hr => ⟨fun hc => ?_, fun hc => ?_⟩, fun hn => ?_⟩⟩
  · refine exists_congr fun j => and_congr_right fun hj => and_congr_right fun ho => and_congr_right fun hst => ?_
    refine and_congr ⟨fun hf q x hx hm => ?_, State.inRelease_eq_false⟩ (and_congr ?_ ?_)
    · exact Bool.false_ne_true (hf.symm.trans (State.inRelease_iff.mpr ⟨q, x, hx, hm⟩))
    · cases j.large <;> simp [Descriptor.fits]
    · cases j.preferred <;> simp
  · rw [State.eligibleHandles, filter_eq_of_sublist hs hn hl]
    rfl
  · obtain ⟨new, heq, hsub, hnd, hlen, hnew, hall⟩ :=
      s.appendChosen_appends (p := p) (e := e) (key := x.account) ((selectedPositions body).filterMap x.eligible.rd) x.release
    rw [selectedPositions_filterMap] at hsub
    refine ⟨new, heq, hsub, hnd, hlen, fun h hh => ?_, fun i h j hi hel hj hq hm => ?_⟩
    · exact ⟨(hnew h hh).1, State.selectable_iff_qualifies.mp (hnew h hh).2⟩
    · refine hall h ?_ (State.selectable_iff_qualifies.mpr ⟨j, hj, hq, hm⟩)
      rw [selectedPositions_filterMap]
      exact List.mem_filterMap.mpr ⟨i, List.mem_finRange i, (if_pos hi).trans hel⟩
  · refine exec_select hcall hp hl hu he ((takeSelect_of_session he ?_ hr).trans (if_pos ?_))
    · rw [hu, State.heard_sessions]
      exact hx
    · rw [hc]
  · refine exec_select hcall hp hl hu he ((takeSelect_of_session he ?_ hr).trans (if_neg fun hlen => hc ?_))
    · rw [hu, State.heard_sessions]
      exact hx
    · obtain ⟨new, hnew⟩ := u.chosenList_appends (p := p) (e := e) x body
      rw [hnew, List.length_append] at hlen
      rw [hnew, List.eq_nil_of_length_eq_zero (by omega : new.length = 0), List.append_nil]
  · refine exec_select hcall hp hl hu he (takeSelect_stale fun x hx => hn x ?_)
    rwa [hu, State.heard_sessions] at hx

end Sys2Proof.Machine
end


section
/-! SUPPORT. Grant attempts, and what printers report of their jobs (R90 to R98, R158). -/

namespace Sys2Proof.Machine

variable {s t u v : State} {p : PrinterNo} {e : Enrolled} {h : Handle} {j : Job} {x : Session} {a : Account} {y : Tenant}
  {c : ChannelNo} {k : PositionNo} {body : List Byte} {line cam : Bool} {rest : List Handle} {ans : ReportAnswer}

/-! ### Grant attempts (R90, R91) -/

/-- What a grant attempt asks of the printer and its session (R90). -/
theorem State.grantAttempt_of_ready (he : s.printers.rd p = .enrolled e) (hx : s.sessions.rd p = some x)
    (hr : x.releasing = true) (hne : x.release ≠ []) (hv : e.service = .inService) (hc : e.codes = ⟨0, 0, 0⟩)
    (ha : e.activeJob = none) : s.grantAttempt p = grantFrom p e x.release s := by
  simp only [State.grantAttempt, State.enrolled_eq_some.mpr he, hx]
  refine if_pos ?_
  simp only [hr, List.isEmpty_eq_false_iff.mpr hne, hv, Enrolled.conditionsClear_iff.mpr hc, ha, Bool.not_false,
    Option.isNone_none, decide_true, Bool.and_self]

theorem State.grantAttempt_not_ready (hn : ∀ e x, s.printers.rd p = .enrolled e → s.sessions.rd p = some x →
    x.releasing = false ∨ x.release = [] ∨ e.service ≠ .inService ∨ e.codes ≠ ⟨0, 0, 0⟩ ∨ e.activeJob ≠ none) :
    s.grantAttempt p = s := by
  cases he : s.enrolled p with
  | none => simp only [State.grantAttempt, he]
  | some e =>
    cases hx : s.sessions.rd p with
    | none => simp only [State.grantAttempt, he, hx]
    | some x =>
      simp only [State.grantAttempt, he, hx]
      refine if_neg fun hc => ?_
      simp only [Bool.and_eq_true, Bool.not_eq_true', decide_eq_true_eq, List.isEmpty_eq_false_iff,
        Option.isNone_iff_eq_none, Enrolled.conditionsClear_iff] at hc
      obtain ⟨⟨⟨⟨hr, hne⟩, hv⟩, hc⟩, ha⟩ := hc
      obtain h | h | h | h | h := hn e x (State.enrolled_eq_some.mp he) hx
      · exact Bool.false_ne_true (h.symm.trans hr)
      · exact hne h
      · exact h hv
      · exact h hc
      · exact h ha

/-- The attempt goes on with what is left of the release list, or the session returns to SHOWING (R91). -/
theorem grantFrom_rest (he : s.printers.rd p = .enrolled e) (hx : s.sessions.rd p = some x) (hr : x.releasing = true)
    (hl : x.release = rest) (hv : e.service = .inService) (hc : e.codes = ⟨0, 0, 0⟩) (ha : e.activeJob = none) :
    (rest ≠ [] → grantFrom p e rest s = s.grantAttempt p) ∧ (rest = [] → grantFrom p e rest s = s.returnToShowing p) := by
  subst hl
  refine ⟨fun hne => (State.grantAttempt_of_ready he hx hr hne hv hc ha).symm, fun h => ?_⟩
  rw [h, grantFrom]

theorem State.checkGrant_eq (ha : s.account j.owner = some a) (hy : s.tenants.rd j.owner.tenant = some y) :
    s.checkGrant e j = some (((grantRefusal a y (estimate y.tariff e.descriptor.colour j)).map Sum.inl).getD
      (.inr (estimate y.tariff e.descriptor.colour j))) := by
  simp only [State.checkGrant, ha, hy]
  cases grantRefusal a y (estimate y.tariff e.descriptor.colour j) <;> rfl

theorem State.noteRefusal_eq {reason : NoteReason} {tag : Nat} (hx : s.sessions.rd p = some x) :
    s.noteRefusal p reason tag = s.setSession p (some { x with
      note := some ⟨reason, tag, (x.note.map (·.count)).getD 0 + 1⟩ }) := by
  rw [State.noteRefusal, State.modSession_of_some hx]

theorem State.returnToShowing_eq (he : s.printers.rd p = .enrolled e) (hx : s.sessions.rd p = some x) :
    s.returnToShowing p = { s with
      sessions := s.sessions.wr p (some { x with
        releasing := false, release := [], window := some e.descriptor.window })
      positions := s.positions.wr p { s.positions.rd p with showList := true } } := by
  simp only [State.returnToShowing, State.enrolled_eq_some.mpr he, State.modSession_of_some hx]
  rfl

/-- Settles O53, by one round of `grantFrom`: what is left of the list is a new attempt (`grantFrom_rest`). -/
theorem grantIsAttempted : Obligations.GrantIsAttempted := by
  refine ⟨fun s p e x h rest he hx hr hl hv hc ha => ?_, fun s p e x he hx => State.returnToShowing_eq he hx,
    fun s p hn => State.grantAttempt_not_ready hn⟩
  have hfrom : s.grantAttempt p = grantFrom p e (h :: rest) s := by
    rw [State.grantAttempt_of_ready he hx hr (by simp [hl]) hv hc ha, hl]
  have hmod : (s.modSession p fun x => { x with release := rest })
      = { s with sessions := s.sessions.wr p (some { x with release := rest }) } := State.modSession_of_some hx _
  refine ⟨fun j a t est hj hst hac ht hest => ⟨fun hok => ?_, fun reason hno v hv' => ?_⟩, fun hn v hv' => ?_⟩
  · have hcheck := State.checkGrant_eq (e := e) (s := { s with sessions := s.sessions.wr p (some { x with release := rest }) })
      hac ht
    rw [← hest, hok] at hcheck
    have hjob : State.job { s with sessions := s.sessions.wr p (some { x with release := rest }) } h = some j := hj
    rw [hfrom, grantFrom, hmod]
    simp only [hjob, hst, hcheck, Option.map_none, Option.getD_none, if_true]
    exact State.grant_eq hjob ht
  · have hcheck := State.checkGrant_eq (e := e) (s := { s with sessions := s.sessions.wr p (some { x with release := rest }) })
      hac ht
    rw [← hest, hno] at hcheck
    have hjob : State.job { s with sessions := s.sessions.wr p (some { x with release := rest }) } h = some j := hj
    have hnext : s.grantAttempt p = grantFrom p e rest v := by
      rw [hfrom, grantFrom, hmod]
      simp only [hjob, hst, hcheck, Option.map_some, Option.getD_some, if_true]
      rw [State.noteRefusal_eq (Table.rd_wr_self _ _ _), hv', State.setSession, Table.wr_wr_self]
      cases x.note <;> rfl
    rw [hnext]
    subst hv'
    exact grantFrom_rest he (Table.rd_wr_self _ _ _) hr rfl hv hc ha
  · have hnext : s.grantAttempt p = grantFrom p e rest v := by
      rw [hfrom, grantFrom, hmod, ← hv']
      have hjob : v.job h = s.job h := by rw [hv']; rfl
      rw [hjob]
      cases hj : s.job h with
      | none => rfl
      | some j => exact if_neg (hn j hj)
    rw [hnext]
    subst hv'
    exact grantFrom_rest he (Table.rd_wr_self _ _ _) hr rfl hv hc ha

/-! ### LOGOUT, JOB START and JOB RESUMED (R96, R98, R158) -/

/-- What the frame of a report leaves of the printer, for those who take the report. -/
theorem State.heard_readings (hu : u = s.heard p false) (he : s.printers.rd p = .enrolled e) :
    (∃ codes grace, u.printers.rd p = .enrolled { e with codes := codes, grace := grace }) ∧ u.sessions = s.sessions
      ∧ u.activeJob p = e.activeJob ∧ u.jobs = s.jobs ∧ ∀ h, u.job h = s.job h := by
  subst hu
  refine ⟨State.heard_enrolled false he, State.heard_sessions false, ?_, State.heard_jobs false, State.heard_job false⟩
  rw [State.heard_activeJob, State.activeJob_of_enrolled he]

/-- A report of a known kind and length from an enrolled printer, naming its active job where it names one. -/
theorem exec_report {kind : Byte} {r : ReportRule} (h : s.Called c k) (hp : p = printerAt c k)
    (hu : u = s.heard p false) (he : s.printers.rd p = .enrolled e) (hr : reportRule kind = some r)
    (hl : body.length = r.length) (hb : r.length ≤ 48) (hn : kind ≠ 0)
    (hs : ¬ (kind = 0x17 ∧ body.length = 2 ∧ u8 body 0 = 3))
    (hj : r.namesJob = true → e.activeJob = some (handleAt body 0)) (hx : takeReport r.kind p body u = (t, ans)) :
    Host.Outcome.next (s.reportFrame c k kind body line)
      = (.next (t.endReport c k line (some ans)).serveChannels : Host.Outcome State Fault Refusal) := by
  obtain ⟨⟨codes, grace, he'⟩, -⟩ := State.heard_readings hu he
  exact congrArg Host.Outcome.next (reportFrame_taken h hp hu he' hr hl hb hn hs hj hx)

theorem takeLogout_ends (hx : s.sessions.rd p = some x)
    (h : x.releasing = false ∨ x.loggedOut = false ∧ s.activeJob p = none) :
    takeLogout p body s = (s.endSession p .loggedOut, .taken) := by
  simp only [takeLogout, hx]
  cases hr : x.releasing with
  | false => rfl
  | true =>
    obtain ⟨ho, ha⟩ := h.resolve_left (by simp [hr])
    simp [ho, ha]

theorem takeLogout_waits (hx : s.sessions.rd p = some x) (hr : x.releasing = true) (ho : x.loggedOut = false)
    (ha : s.activeJob p ≠ none) : takeLogout p body s
      = ((s.setSession p (some { x with release := [], loggedOut := true, note := none })).setEndSession p .loggedOut,
        .taken) := by
  have hact : (s.activeJob p).isNone = false := by simpa [Option.isSome_iff_ne_none] using ha
  simp only [takeLogout, hx, hr, ho, hact, Bool.not_true, Bool.false_eq_true, if_false]

theorem takeLogout_stale (hn : ∀ x, s.sessions.rd p = some x → x.releasing = true ∧ x.loggedOut = true) :
    takeLogout p body s = (s, .stale .sessionEnded) := by
  unfold takeLogout
  cases hx : s.sessions.rd p with
  | none => rfl
  | some x =>
    obtain ⟨hr, ho⟩ := hn x hx
    simp only [hr, ho, Bool.not_true, Bool.false_eq_true, if_false, if_true]

theorem takeJobStart_granted {timer : Option Nat} (hj : s.job (handleAt body 0) = some j)
    (hs : j.state = .granted p cam timer) : takeJobStart p body s
      = (s.setJob (handleAt body 0).record { j with state := .printing p cam }, .taken) := by
  simp only [takeJobStart, State.grantedAt_eq_some.mpr ⟨hj, hs⟩]

theorem takeJobStart_stale (hj : s.job (handleAt body 0) = some j) (hs : ∀ cam timer, j.state ≠ .granted p cam timer) :
    takeJobStart p body s = (s, .stale .notActive) := by
  have hnone : s.grantedAt (handleAt body 0) p = none := State.grantedAt_eq_none.mpr fun i cam timer hi => by
    rw [hj, Option.some.injEq] at hi
    exact hi ▸ hs cam timer
  simp only [takeJobStart, hnone]

theorem takeJobResumed_suspended {timer : Nat} (hj : s.job (handleAt body 0) = some j)
    (hs : j.state = .suspended p cam timer) : takeJobResumed p body s
      = (s.setJob (handleAt body 0).record { j with state := .printing p cam }, .taken) := by
  simp only [takeJobResumed, State.activeAt_eq_some.mpr ⟨hj, cam, by rw [hs]; rfl⟩, hs]

theorem takeJobResumed_stale (hj : s.job (handleAt body 0) = some j)
    (hs : ∀ cam timer, j.state ≠ .suspended p cam timer) : takeJobResumed p body s = (s, .stale .notActive) := by
  unfold takeJobResumed
  dsimp only
  cases ha : s.activeAt (handleAt body 0) p with
  | none => rfl
  | some i =>
    obtain ⟨hi, cam, hact⟩ := State.activeAt_eq_some.mp ha
    rw [hj, Option.some.injEq] at hi
    subst hi
    dsimp only
    cases hst : j.state with
    | suspended q cam' timer =>
      rw [hst] at hact
      cases hact
      exact absurd hst (hs _ _)
    | _ => rfl

/-- Settles O54, by the cases of `takeLogout`, `takeJobStart` and `takeJobResumed`. -/
theorem logoutStartAndResumeAreTaken : Obligations.LogoutStartAndResumeAreTaken := by
  intro s u c k p body line e hcall hp hu he
  obtain ⟨-, hsess, hact, hjobs, hjob⟩ := State.heard_readings hu he
  refine ⟨fun hb => ?_, fun h j hb ha hh hj => ?_⟩
  · have hlogout {t : State} {ans : ReportAnswer} (ht : takeLogout p body u = (t, ans)) :
        exec (.logout c k body line) s = .next (t.endReport c k line (some ans)).serveChannels :=
      exec_report (kind := 0x12) (r := ⟨0, false, 0x12⟩) hcall hp hu he rfl (by rw [hb]; rfl) (by decide) (by decide)
        (by simp) nofun ht
    refine ⟨fun x hx hor => ?_, fun x hx hr ho hna => ?_, fun hn => ?_⟩
    · exact hlogout (takeLogout_ends (hsess ▸ hx) (hact ▸ hor))
    · exact hlogout (takeLogout_waits (hsess ▸ hx) hr ho (hact ▸ hna))
    · exact hlogout (takeLogout_stale fun x hx => hn x (hsess ▸ hx))
  · subst hh
    have hju : u.job (handleAt body 0) = some j := (hjob _).trans hj
    have hstart {t : State} {ans : ReportAnswer} (ht : takeJobStart p body u = (t, ans)) :
        exec (.jobStart c k body line) s = .next (t.endReport c k line (some ans)).serveChannels :=
      exec_report (kind := 0x13) (r := ⟨2, true, 0x13⟩) hcall hp hu he rfl hb (by decide) (by decide) (by simp)
        (fun _ => ha) ht
    have hresume {t : State} {ans : ReportAnswer} (ht : takeJobResumed p body u = (t, ans)) :
        exec (.jobResumed c k body line) s = .next (t.endReport c k line (some ans)).serveChannels :=
      exec_report (kind := 0x15) (r := ⟨2, true, 0x15⟩) hcall hp hu he rfl hb (by decide) (by decide) (by simp)
        (fun _ => ha) ht
    rw [← hjobs]
    refine ⟨fun cam timer hs => ?_, fun hs => ?_, fun cam timer hs => ?_, fun hs => ?_⟩
    · exact (State.setJob_of_job hju _) ▸ hstart (takeJobStart_granted hju hs)
    · exact hstart (takeJobStart_stale hju hs)
    · exact (State.setJob_of_job hju _) ▸ hresume (takeJobResumed_suspended hju hs)
    · exact hresume (takeJobResumed_stale hju hs)

/-! ### JOB END (R67, R97) -/

theorem takeJobEnd_finished {outcome : JobOutcome} (ho : u8 body 2 = 1 ∧ outcome = .done
      ∨ u8 body 2 = 2 ∧ outcome = .cancelled) (hv : s.finish (handleAt body 0) p outcome = some v) :
    takeJobEnd p body s = (v.afterFinish p, .taken) := by
  have hout : jobEndOutcome (u8 body 2) = some outcome := by
    obtain ⟨h, rfl⟩ | ⟨h, rfl⟩ := ho
    · rw [h, jobEndOutcome]
    · rw [h, jobEndOutcome]
  simp only [takeJobEnd, hout, hv]

theorem jobEndOutcome_eq_none {n : Nat} (h1 : n ≠ 1) (h2 : n ≠ 2) : jobEndOutcome n = none := by
  unfold jobEndOutcome
  split
  · exact absurd rfl h1
  · exact absurd rfl h2
  · rfl

theorem takeJobEnd_malformed (h1 : u8 body 2 ≠ 1) (h2 : u8 body 2 ≠ 2) :
    takeJobEnd p body s = (s, .stale .malformed) := by
  simp only [takeJobEnd, jobEndOutcome_eq_none h1 h2]

theorem State.afterFinish_showing (hn : ∀ x, s.sessions.rd p = some x → x.releasing = false) : s.afterFinish p = s := by
  unfold State.afterFinish
  cases s.enrolled p with
  | none => rfl
  | some e =>
    cases hx : s.sessions.rd p with
    | none => rfl
    | some x => simp only [hn x hx, Bool.not_false, if_true]

/-- The cases of R97 at a RELEASING session. -/
theorem State.afterFinish_releasing (he : s.printers.rd p = .enrolled e) (hx : s.sessions.rd p = some x)
    (hr : x.releasing = true) : s.afterFinish p = if x.loggedOut = true then s.endSession p .sessionDone
      else if e.codes ≠ ⟨0, 0, 0⟩ then s.endSession p .printerStopped
      else if x.release = [] then s.endSession p .sessionDone else s.grantAttempt p := by
  simp only [State.afterFinish, State.enrolled_eq_some.mpr he, hx, hr, Bool.not_true, Bool.false_eq_true, if_false,
    Bool.not_eq_true', ← Bool.not_eq_true, Enrolled.conditionsClear_iff, List.isEmpty_iff, ne_eq]

theorem exec_jobEnd (h : s.Called c k) (hp : p = printerAt c k) (hu : u = s.heard p false)
    (he : s.printers.rd p = .enrolled e) (hl : body.length = 3) (hj : e.activeJob = some (handleAt body 0))
    (ht : takeJobEnd p body u = (t, ans)) :
    exec (.jobEnd c k body line) s = .next (t.endReport c k line (some ans)).serveChannels :=
  exec_report (kind := 0x16) (r := ⟨3, true, 0x16⟩) h hp hu he rfl hl (by decide) (by decide) (by simp) (fun _ => hj) ht

/-- Settles O55, by `State.finish_eq` and the cases of `State.afterFinish`. -/
theorem jobEndFinishesTheJob : Obligations.JobEndFinishesTheJob := by
  refine ⟨fun s h p outcome j cam e x hj ha he hx => ⟨_, State.finish_eq hj ha he hx, rfl, rfl⟩,
    fun s u v c k p body line e h outcome hcall hp hu he hl ha hh ho hv => ?_,
    fun s p e he => ⟨State.afterFinish_showing, fun x hx hr => ?_⟩,
    fun s c k body line e hcall he hl ha h1 h2 => exec_jobEnd hcall rfl rfl he hl ha (takeJobEnd_malformed h1 h2)⟩
  · subst hh
    exact exec_jobEnd hcall hp hu he hl ha (takeJobEnd_finished ho hv)
  · rw [State.afterFinish_releasing he hx hr]
    refine ⟨fun ho => if_pos ho, fun ho hc => ?_, fun ho hc hl => ?_, fun ho hc hl => ?_⟩
    all_goals rw [if_neg (Bool.eq_false_iff.mp ho)]
    · exact if_pos hc
    · exact (if_neg (not_not_intro hc)).trans (if_pos hl)
    · exact (if_neg (not_not_intro hc)).trans (if_neg hl)

end Sys2Proof.Machine
end


section
/-! SUPPORT. Sides charged and slots consumed (R108 to R111, R119 to R122, R138 to R140). -/

namespace Sys2Proof.Machine

variable {s t u v : State} {p : PrinterNo} {e : Enrolled} {h : Handle} {j : Job} {x : Slot} {a : Account} {y : Tenant}
  {c : ChannelNo} {k : PositionNo} {body : List Byte} {line cam large : Bool} {ans : ReportAnswer} {i n cover : Nat}
  {r : Reorder}

/-! ### A SIDES report (R108, R109) -/

theorem exec_sides (h : s.Called c k) (hp : p = printerAt c k) (hu : u = s.heard p false)
    (he : s.printers.rd p = .enrolled e) (hl : body.length = 14) (hj : e.activeJob = some (handleAt body 0))
    (ht : takeSides p body u = (t, ans)) :
    exec (.sides c k body line) s = .next (t.endReport c k line (some ans)).serveChannels :=
  exec_report (kind := 0x14) (r := ⟨14, true, 0x14⟩) h hp hu he rfl hl (by decide) (by decide) (by simp) (fun _ => hj) ht

/-- SIDES of a job that may print. -/
theorem takeSides_printing (hj : s.job (handleAt body 0) = some j)
    (hs : j.state = .printing p cam ∨ ∃ timer, j.state = .suspended p cam timer) : takeSides p body s
      = if u8 body 2 = 1 ∨ u8 body 2 = 2 then if min (u8 body 3) 16 = 0 then (s, .taken)
          else ((s.chargeSides (handleAt body 0) j cam (decide (u8 body 2 = 2)) (min (u8 body 3) 16)).consumeSides p j.large
            (min (u8 body 3) 16) body, .taken)
        else (s, .stale .malformed) := by
  obtain hs | ⟨timer, hs⟩ := hs
  · simp only [takeSides, hj, hs]
  · simp only [takeSides, hj, hs]

theorem takeSides_granted {timer : Option Nat} (hj : s.job (handleAt body 0) = some j)
    (hs : j.state = .granted p cam timer) : takeSides p body s = (s, .stale .notActive) := by
  simp only [takeSides, hj, hs]

/-! ### The urgent test (R138 to R140) -/

theorem State.urgentTest_calm (he : s.printers.rd p = .enrolled e) (hx : e.slots[i]? = some x)
    (hn : e.descriptor.floorPercent < x.level ∧ x.remaining ≠ 0) : s.urgentTest p i = s := by
  simp only [State.urgentTest, State.enrolled_eq_some.mpr he, State.slot_of he, hx]
  refine if_neg fun hu => ?_
  simp only [Slot.urgent, Bool.or_eq_true, decide_eq_true_eq] at hu
  obtain hu | hu := hu
  · omega
  · exact hn.2 hu

/-- The test of a slot that is urgent, by the open reorder it has. -/
theorem State.urgentTest_urgent (he : s.printers.rd p = .enrolled e) (hx : e.slots[i]? = some x)
    (hu : x.level ≤ e.descriptor.floorPercent ∨ x.remaining = 0) :
    (s.openReorder p i = none → s.urgentTest p i = s.raiseReorder p i x .urgent)
      ∧ (∀ r, s.openReorder p i = some r → r.urgency = .normal → s.urgentTest p i
        = (s.modReorder r.number fun r => { r with urgency := .urgent }).raise .orderUrgent toSupplies)
      ∧ (∀ r, s.openReorder p i = some r → r.urgency = .urgent → s.urgentTest p i = s) := by
  have hurgent : x.urgent e.descriptor.floorPercent = true := by
    simp only [Slot.urgent, Bool.or_eq_true, decide_eq_true_eq]
    exact hu
  simp only [State.urgentTest, State.enrolled_eq_some.mpr he, State.slot_of he, hx, hurgent, if_true]
  refine ⟨fun ho => ?_, fun r ho hr => ?_, fun r ho hr => ?_⟩
  · rw [ho]
  · rw [ho]
    simp only [hr]
  · rw [ho]
    simp only [hr]

/-! ### Consumption (R120 to R122) -/

theorem State.consumeSlot_eq (he : s.printers.rd p = .enrolled e) (hx : e.slots[i]? = some x) :
    s.consumeSlot p large n cover i = State.urgentTest { s with printers := s.printers.wr p (.enrolled { e with
      slots := e.slots.set i (x.consume (x.consumption large n cover)) }) } p i := by
  rw [State.consumeSlot, (State.slot_of he).trans hx]
  dsimp only
  rw [State.setSlot_eq he, State.setPrinter]

theorem State.consumeSides_eq (he : s.printers.rd p = .enrolled e) : s.consumeSides p large n body
    = (List.range e.slots.length).foldl (fun u i => u.consumeSlot p large n (u16 body (4 + 2 * i)) i) s := by
  rw [State.consumeSides, State.enrolled_eq_some.mpr he]
  rfl

/-- What the slots have consumed once the first `m` of them are through. -/
structure State.ConsumedTo (s u : State) (p : PrinterNo) (e : Enrolled) (large : Bool) (n : Nat) (body : List Byte) (m : Nat)
    (slots : List Slot) : Prop where
  frame : u = { s with
    printers := s.printers.wr p (.enrolled { e with slots := slots })
    reorders := u.reorders, reorderCounter := u.reorderCounter, ports := u.ports }
  length : slots.length = e.slots.length
  consumed : ∀ i x, e.slots[i]? = some x → slots[i]? = some (if i < m
    then x.consume (x.consumption large n (u16 body (4 + 2 * i))) else x)

theorem State.ConsumedTo.zero (he : s.printers.rd p = .enrolled e) : s.ConsumedTo s p e large n body 0 e.slots where
  frame := by
    rw [show Printer.enrolled { e with slots := e.slots } = s.printers.rd p from he.symm, Table.wr_rd_self]
  length := rfl
  consumed i x hx := by rw [if_neg (Nat.not_lt_zero i), hx]

theorem State.ConsumedTo.succ {m : Nat} {slots : List Slot} (h : s.ConsumedTo u p e large n body m slots)
    (hm : m < e.slots.length) :
    ∃ slots', s.ConsumedTo (u.consumeSlot p large n (u16 body (4 + 2 * m)) m) p e large n body (m + 1) slots' := by
  have hx := List.getElem?_eq_getElem hm
  generalize e.slots[m] = x at hx
  have hslot : slots[m]? = some x := by rw [h.consumed m x hx, if_neg (Nat.lt_irrefl m)]
  have hu : u.printers.rd p = .enrolled { e with slots := slots } := by
    rw [h.frame]
    exact Table.rd_wr_self _ _ _
  refine ⟨slots.set m (x.consume (x.consumption large n (u16 body (4 + 2 * m)))), ?_, ?_, fun i z hz => ?_⟩
  · rw [State.consumeSlot_eq hu hslot]
    obtain ⟨rs, k, ps, hf⟩ := State.urgentTest_frame { u with printers := u.printers.wr p (.enrolled { e with
      slots := slots.set m (x.consume (x.consumption large n (u16 body (4 + 2 * m)))) }) } p m
    rw [hf, h.frame]
    simp only [Table.wr_wr_self]
  · rw [List.length_set, h.length]
  · rw [List.getElem?_set, h.consumed i z hz]
    by_cases hi : m = i
    · subst hi
      rw [hx, Option.some.injEq] at hz
      subst hz
      rw [if_pos rfl, if_pos (h.length ▸ hm), if_pos (Nat.lt_succ_self m)]
    · rw [if_neg hi]
      by_cases hlt : i < m
      · rw [if_pos hlt, if_pos (by omega)]
      · rw [if_neg hlt, if_neg (by omega)]

theorem State.consumedTo_foldl (he : s.printers.rd p = .enrolled e) (m : Nat) (hm : m ≤ e.slots.length) :
    ∃ slots, s.ConsumedTo ((List.range m).foldl (fun u i => u.consumeSlot p large n (u16 body (4 + 2 * i)) i) s) p e large n
      body m slots := by
  induction m with
  | zero => exact ⟨e.slots, .zero he⟩
  | succ m ih =>
    obtain ⟨slots, h⟩ := ih (by omega)
    rw [List.range_succ, List.foldl_append]
    exact h.succ (by omega)

theorem Slot.consumption_eq : x.consumption large n cover = (if large then 2 else 1)
    * (if x.kind = .imagingUnit then n * x.overhead else min cover (n * 1000) + n * x.overhead) := by
  unfold Slot.consumption
  cases x.kind <;> cases large <;> simp

/-! ### Charges (R110, R111) -/

theorem sideCharge_eq {w : Tariff} {colour : Bool} : sideCharge w j cam colour n
    = n * (if colour = true ∧ cam = false then (if j.large then w.largeColour else w.colour)
      else (if j.large then w.largeMono else w.mono)) := by
  unfold sideCharge Tariff.weight
  cases colour <;> cases cam <;> cases j.large <;> rfl

/-- Settles O56, by `State.chargeSides_eq`, and by `State.consumedTo_foldl`, the slots taken one by one. -/
theorem sidesAreChargedAndConsumed : Obligations.SidesAreChargedAndConsumed := by
  refine ⟨fun s u c k p body line e h j cam hcall hp hu he hl ha hh hj hs => ?_,
    fun s c k body line e h j cam timer hcall he hl ha hh hj hs => ?_,
    fun s h j cam colour n charge a t hj ha ht hn hc => ?_, fun s p large n body e he => ?_,
    fun s p large n body e he => State.consumeSides_eq he, fun s p large n cover i e x he hx => State.consumeSlot_eq he hx,
    fun x large n cover d => ⟨Slot.consumption_eq, rfl⟩,
    fun s p i e x he hx => ⟨State.urgentTest_calm he hx, fun hu => ?_⟩⟩
  · subst hh
    obtain ⟨-, -, -, -, hjob⟩ := State.heard_readings hu he
    have ht := takeSides_printing ((hjob _).trans hj) hs
    refine ⟨fun hk hn => ?_, fun hk hn => ?_, fun h1 h2 => ?_⟩
    · rw [if_pos hk, if_neg (by omega)] at ht
      exact exec_sides hcall hp hu he hl ha ht
    · rw [if_pos hk, if_pos (by omega)] at ht
      exact exec_sides hcall hp hu he hl ha ht
    · rw [if_neg fun hk => hk.elim h1 h2] at ht
      exact exec_sides hcall hp hu he hl ha ht
  · subst hh
    obtain ⟨-, -, -, -, hjob⟩ := State.heard_readings rfl he
    exact exec_sides hcall rfl rfl he hl ha (takeSides_granted ((hjob _).trans hj) hs)
  · have hv := State.chargeSides_eq (h := h) (cam := cam) (colour := colour) (sides := n) hj ha ht hn (hc.trans sideCharge_eq.symm)
    simp only [satAdd, unitMax, Job.chargedFor] at hv
    exact ⟨_, hv, rfl, _, rfl, rfl⟩
  · obtain ⟨slots, hf, hlen, hc⟩ := State.consumedTo_foldl (large := large) (n := n) (body := body) he e.slots.length le_rfl
    rw [← State.consumeSides_eq he] at hf
    refine ⟨_, { e with slots := slots }, rfl, hf, rfl, hlen, fun i x hx => ?_⟩
    exact (hc i x hx).trans (by rw [if_pos (List.getElem?_eq_some_iff.mp hx).1])
  · obtain ⟨hnone, hnormal, hurgent⟩ := State.urgentTest_urgent he hx hu
    refine ⟨fun ho => ?_, fun r ho hr => hnormal r ho hr, hurgent⟩
    rw [hnone ho]
    rfl

end Sys2Proof.Machine
end


section
/-! SUPPORT. Cartridges and the reorder list (R129 to R131, R136, R141, R143 to R146). -/

namespace Sys2Proof.Machine

variable {s t u v : State} {p : PrinterNo} {e : Enrolled} {x : Slot} {port : PortNo} {tag : Byte}
  {c : ChannelNo} {k : PositionNo} {body : List Byte} {line : Bool} {ans : ReportAnswer} {i : Nat}
  {r q : Reorder} {identity : Word32} {l taken : List Reorder}

/-! ### The reorder list told of a replacement (R141) -/

theorem State.reorderReplaced_open (ho : s.openReorder p i = some r) : s.reorderReplaced p i x = State.raise { s with
    reorders := (s.reorders.filter fun q => !(decide (q.printer = p) && decide (q.slot = i) && !q.state.isOpen)).map
      fun q => if q.number = r.number then { q with state := .fulfilled } else q } .orderClosed toSupplies := by
  obtain ⟨-, rfl, rfl, -⟩ := State.openReorder_eq_some ho
  simp only [State.reorderReplaced, ho]
  rfl

theorem State.reorderReplaced_unplanned (ho : s.openReorder p i = none) :
    s.reorderReplaced p i x = ((s.freeClosed p i).addReorder
      ⟨0, p, i, x.kind, .normal, .unplanned, s.clock, x.level, none, none⟩).raise .orderClosed toSupplies := by
  simp only [State.reorderReplaced, ho]

/-! ### CARTRIDGE (R129 to R131) -/

theorem exec_cartridge (h : s.Called c k) (hp : p = printerAt c k) (hu : u = s.heard p false)
    (he : u.printers.rd p = .enrolled e) (hl : body.length = 5) (ht : takeCartridge p body u = (t, ans)) :
    exec (.cartridge c k body line) s = .next (t.endReport c k line (some ans)).serveChannels :=
  congrArg Host.Outcome.next (reportFrame_taken (kind := 0x18) (r := ⟨5, false, 0x18⟩) h hp hu he rfl hl (by decide)
    (by decide) (by simp) nofun ht)

/-- The three meanings of a CARTRIDGE report at a slot that stands. -/
theorem takeCartridge_of_slot (he : s.printers.rd p = .enrolled e) (hx : e.slots[u8 body 0]? = some x) :
    takeCartridge p body s = if u32 body 1 = 0 then (s.setSlot p (u8 body 0) { x with present := false }, .taken)
      else if u32 body 1 = x.identity then (s.setSlot p (u8 body 0) { x with present := true }, .taken)
      else (s.replaceCartridge p (u8 body 0) x (u32 body 1), .taken) := by
  simp only [takeCartridge, (State.slot_of he).trans hx]

theorem takeCartridge_malformed (he : s.printers.rd p = .enrolled e) (hx : e.slots[u8 body 0]? = none) :
    takeCartridge p body s = (s, .stale .malformed) := by
  simp only [takeCartridge, (State.slot_of he).trans hx]

theorem State.replaceCartridge_eq (he : s.printers.rd p = .enrolled e)
    (hv : v = State.reorderReplaced { s with printers := s.printers.wr p (.enrolled { e with
      slots := e.slots.set i (x.replaced identity) }) } p i x) : s.replaceCartridge p i x identity
      = if v.suspendedJob p ≠ none ∧ e.descriptor.swapKeepsJob = false then v.conditionRehold p else v := by
  have hprinter : v.enrolled p = some { e with slots := e.slots.set i (x.replaced identity) } := by
    obtain ⟨rs, n, ps, hf⟩ := State.reorderReplaced_frame { s with printers := s.printers.wr p (.enrolled { e with
      slots := e.slots.set i (x.replaced identity) }) } p i x
    rw [hv, hf]
    exact State.enrolled_eq_some.mpr (Table.rd_wr_self _ _ _)
  rw [State.replaceCartridge, State.setSlot_eq he, State.setPrinter, ← hv]
  simp only [hprinter, Bool.and_eq_true, Bool.not_eq_true', Option.isSome_iff_ne_none]

/-- Settles O57, by the cases of `takeCartridge` and of `State.reorderReplaced`. -/
theorem cartridgeReportsAreTaken : Obligations.CartridgeReportsAreTaken := by
  refine ⟨fun s u c k p body line e hcall hp hl5 he hl => ⟨fun x hx => ?_, fun hx => ?_⟩, fun s p i x =>
    ⟨fun r ho => State.reorderReplaced_open ho, fun ho => ?_⟩⟩
  · have ht := takeCartridge_of_slot he hx
    simp only [State.setSlot_eq he] at ht
    refine ⟨fun h0 => ?_, fun h0 hid => ?_, fun h0 hid v hv => ?_⟩
    · exact exec_cartridge hcall hp hl5 he hl (ht.trans (if_pos h0))
    · exact exec_cartridge hcall hp hl5 he hl (ht.trans ((if_neg h0).trans (if_pos hid)))
    · rw [if_neg h0, if_neg hid, State.replaceCartridge_eq he hv] at ht
      exact exec_cartridge hcall hp hl5 he hl ht
  · exact exec_cartridge hcall hp hl5 he hl (takeCartridge_malformed he hx)
  · rw [State.reorderReplaced_unplanned ho]
    rfl

/-! ### TAKE ORDERS (R143) -/

theorem Reorder.record_eq {w : Word32} (hw : w = r.carriedRef.getD 0) : r.record = be2 r.number
    ++ be2 (r.printer.val + 64 * r.slot + 512 * r.kind.code + 2048 * r.urgency.code
      + 4096 * (if r.state.isOpen then 1 else r.state.code)
      + 32768 * (if r.state.isOpen = false ∧ r.orderRef ≠ none then 1 else 0))
    ++ clockBytes r.raisedAt ++ be1 r.level ++ be4 w := by
  have hstate : (if r.state.isOpen = true then ReorderState.sent else r.state).code
      = if r.state.isOpen = true then 1 else r.state.code := by
    rw [apply_ite ReorderState.code]
    rfl
  have hcarried : r.carriedRef.isSome.toNat = if r.state.isOpen = false ∧ r.orderRef ≠ none then 1 else 0 := by
    unfold Reorder.carriedRef
    cases r.state.isOpen <;> cases r.orderRef <;> simp
  rw [Reorder.record, Reorder.packed, hstate, hcarried, hw]

/-- RAISED records are of one urgency or the other. -/
theorem length_raised (l : List Reorder) :
    ((l.filter fun r => decide (r.state = .raised) && decide (r.urgency = .urgent))
      ++ l.filter fun r => decide (r.state = .raised) && decide (r.urgency = .normal)).length
      = (l.filter fun r => decide (r.state = .raised)).length := by
  induction l with
  | nil => rfl
  | cons r l ih =>
    rw [List.length_append] at ih ⊢
    simp only [List.filter_cons]
    by_cases hs : r.state = .raised
    · cases hu : r.urgency with
      | normal =>
        simp only [hs, decide_true, Bool.true_and, reduceCtorEq, decide_false, Bool.false_eq_true, if_false, if_true,
          List.length_cons]
        omega
      | urgent =>
        simp only [hs, decide_true, Bool.true_and, reduceCtorEq, decide_false, Bool.false_eq_true, if_false, if_true,
          List.length_cons]
        omega
    · simpa [hs] using ih

/-- The records taken are records of the list, each once. -/
theorem taken_nodup (hl : l.Nodup) : (((l.filter fun r => decide (r.state = .raised) && decide (r.urgency = .urgent))
    ++ (l.filter fun r => decide (r.state = .raised) && decide (r.urgency = .normal))
    ++ l.filter fun r => !r.state.isOpen).take 8).Nodup := by
  refine List.Nodup.sublist (List.take_sublist _ _) (List.nodup_append.mpr ⟨List.nodup_append.mpr
    ⟨hl.filter _, hl.filter _, fun a ha b hb => ?_⟩, hl.filter _, fun a ha b hb => ?_⟩)
  · rintro rfl
    simp only [List.mem_filter, Bool.and_eq_true, decide_eq_true_eq] at ha hb
    cases ha.2.2.symm.trans hb.2.2
  · rintro rfl
    simp only [List.mem_append, List.mem_filter, Bool.and_eq_true, decide_eq_true_eq, Bool.not_eq_true'] at ha hb
    have hs : a.state = .raised := ha.elim (·.2.1) (·.2.1)
    rw [hs] at hb
    cases hb.2

theorem taken_subset : (((l.filter fun r => decide (r.state = .raised) && decide (r.urgency = .urgent))
    ++ (l.filter fun r => decide (r.state = .raised) && decide (r.urgency = .normal))
    ++ l.filter fun r => !r.state.isOpen).take 8) ⊆ l := by
  intro r hr
  have hr := (List.take_sublist _ _).subset hr
  simp only [List.mem_append, List.mem_filter] at hr
  exact hr.elim (fun h => h.elim And.left And.left) And.left

/-- What is left of a kind of records when some records of the list are taken away. -/
theorem length_left {test : Reorder → Bool} (hl : l.Nodup) (ht : taken.Nodup) (hs : taken ⊆ l) :
    (l.filter fun r => test r && !decide (r ∈ taken)).length = (l.filter test).length - (taken.filter test).length := by
  have hperm : (taken.filter test).Perm ((l.filter test).filter fun r => decide (r ∈ taken)) := by
    refine (List.perm_ext_iff_of_nodup (ht.filter _) ((hl.filter _).filter _)).mpr fun r => ?_
    simp only [List.mem_filter, decide_eq_true_eq]
    exact ⟨fun ⟨hm, hr⟩ => ⟨⟨hs hm, hr⟩, hm⟩, fun ⟨⟨_, hr⟩, hm⟩ => ⟨hm, hr⟩⟩
  have hsplit := List.length_eq_length_filter_add (l := l.filter test) fun r => decide (r ∈ taken)
  rw [hperm.length_eq, hsplit, Nat.add_sub_cancel_left, List.filter_filter]
  refine congrArg List.length (List.filter_congr fun r _ => Bool.and_comm _ _)

/-- The records of a kind in the list that TAKE ORDERS leaves are those that were not taken. -/
theorem length_sent {test : Reorder → Bool} (hl : l.Nodup) (ht : taken.Nodup) (hs : taken ⊆ l)
    (htest : ∀ r, (test (if r ∈ taken then { r with state := .sent } else r)
      && !(decide (r ∈ taken) && !r.state.isOpen)) = (test r && !decide (r ∈ taken))) :
    (((l.filter fun r => !(decide (r ∈ taken) && !r.state.isOpen)).map fun r =>
      if r ∈ taken then { r with state := .sent } else r).filter test).length
      = (l.filter test).length - (taken.filter test).length := by
  rw [List.filter_map, List.length_map, List.filter_filter, ← length_left hl ht hs]
  exact congrArg List.length (List.filter_congr fun r _ => htest r)

theorem raised_sent (r : Reorder) : (decide ((if r ∈ taken then { r with state := .sent } else r : Reorder).state = .raised)
    && !(decide (r ∈ taken) && !r.state.isOpen)) = (decide (r.state = .raised) && !decide (r ∈ taken)) := by
  by_cases hr : r ∈ taken
  · simp [hr]
  · simp [hr]

theorem closed_sent (r : Reorder) : (!(if r ∈ taken then { r with state := .sent } else r : Reorder).state.isOpen
    && !(decide (r ∈ taken) && !r.state.isOpen)) = (!r.state.isOpen && !decide (r ∈ taken)) := by
  by_cases hr : r ∈ taken
  · simp [hr, ReorderState.isOpen]
  · simp [hr]

/-- The list that TAKE ORDERS leaves, by the records taken (distinct numbers name them). -/
theorem State.sendOrders_eq (hn : (s.reorders.map (·.number)).Nodup) (hs : taken ⊆ s.reorders)
    (ht : s.ordersTaken = taken) : s.sendOrders = { s with
      reorders := (s.reorders.filter fun r => !(decide (r ∈ taken) && !r.state.isOpen)).map fun r =>
        if r ∈ taken then { r with state := .sent } else r } := by
  have hmem : ∀ r ∈ s.reorders, r.number ∈ taken.map (·.number) ↔ r ∈ taken := fun r hr => by
    rw [List.mem_map]
    exact ⟨fun ⟨q, hq, he⟩ => eq_of_number_eq hn (hs hq) hr he ▸ hq, fun h => ⟨r, h, rfl⟩⟩
  rw [State.sendOrders, ht]
  rw [List.filter_congr fun r hr => by rw [decide_eq_decide.mpr (hmem r hr)]]
  rw [List.map_congr_left fun r hr => if_congr (hmem r (List.mem_of_mem_filter hr)) rfl rfl]

/-- TAKE ORDERS's work, by the records taken. -/
theorem workTakeOrders_eq (hn : (s.reorders.map (·.number)).Nodup) (ht : s.ordersTaken = taken) :
    workTakeOrders [] s = accept
      (be1 taken.length
        ++ be2 ((s.reorders.filter fun r => decide (r.state = .raised)).length
          - (taken.filter fun r => decide (r.state = .raised)).length)
        ++ be2 ((s.reorders.filter fun r => !r.state.isOpen).length - (taken.filter fun r => !r.state.isOpen).length)
        ++ (taken.map Reorder.record).flatten)
      { s with reorders := (s.reorders.filter fun r => !(decide (r ∈ taken) && !r.state.isOpen)).map fun r =>
        if r ∈ taken then { r with state := .sent } else r } := by
  have hnd : s.reorders.Nodup := List.Nodup.of_map _ hn
  have hsub : taken ⊆ s.reorders := ht ▸ taken_subset
  have htn : taken.Nodup := ht ▸ taken_nodup hnd
  have hraised := length_sent (test := fun r => decide (r.state = .raised)) hnd htn hsub raised_sent
  have hclosed := length_sent (test := fun r => !r.state.isOpen) hnd htn hsub closed_sent
  rw [workTakeOrders, if_neg (by simp)]
  dsimp only
  rw [State.sendOrders_eq hn hsub ht, ht]
  exact congrArg (accept · _) (congrArg (· ++ _)
    (congrArg₂ (be1 taken.length ++ be2 · ++ be2 ·) ((length_raised _).trans hraised) hclosed))

/-! ### CONFIRM ORDER, CANCEL ORDER and SET LEAD TIME (R144 to R146) -/

theorem State.reorder_eq_none {n : Nat} (hn : ∀ r ∈ s.reorders, r.number ≠ n) : s.reorder n = none :=
  List.find?_eq_none.mpr fun r hr => by simpa using hn r hr

theorem workConfirmOrder_malformed (h0 : u16 body 0 = 0) : workConfirmOrder body s = refuse .malformed s := by
  have hno : orderNumberAt body 0 = none := if_pos h0
  simp only [workConfirmOrder, hno, ite_self]

theorem workConfirmOrder_noSuch (hl : body.length = 8) (h0 : u16 body 0 ≠ 0)
    (hn : ∀ r ∈ s.reorders, r.number ≠ u16 body 0) : workConfirmOrder body s = refuse .noSuch s := by
  simp only [workConfirmOrder, hl, ne_eq, not_true, if_false, orderNumberAt_of_ne h0, State.reorder_eq_none hn]

theorem workConfirmOrder_named (hl : body.length = 8) (h0 : u16 body 0 ≠ 0) (hr : s.reorder (u16 body 0) = some r) :
    workConfirmOrder body s = if r.state = .sent then
      accept (s.orderBody { r with
          state := .confirmed, orderRef := some (u32 body 2), expectedDay := some (u16 body 6) })
        (s.modReorder (u16 body 0) fun _ => { r with
          state := .confirmed, orderRef := some (u32 body 2), expectedDay := some (u16 body 6) })
      else refuse .wrongState s := by
  simp only [workConfirmOrder, hl, ne_eq, not_true, if_false, orderNumberAt_of_ne h0, hr]

theorem workCancelOrder_malformed (h0 : u16 body 0 = 0) : workCancelOrder body s = refuse .malformed s := by
  have hno : orderNumberAt body 0 = none := if_pos h0
  simp only [workCancelOrder, hno, ite_self]

theorem workCancelOrder_noSuch (hl : body.length = 2) (h0 : u16 body 0 ≠ 0)
    (hn : ∀ r ∈ s.reorders, r.number ≠ u16 body 0) : workCancelOrder body s = refuse .noSuch s := by
  simp only [workCancelOrder, hl, ne_eq, not_true, if_false, orderNumberAt_of_ne h0, State.reorder_eq_none hn]

theorem workCancelOrder_named (hl : body.length = 2) (h0 : u16 body 0 ≠ 0) (hr : s.reorder (u16 body 0) = some r) :
    workCancelOrder body s = if r.state.isOpen = true then accept [] (s.closeReorder r .cancelled)
      else refuse .wrongState s := by
  simp only [workCancelOrder, hl, ne_eq, not_true, if_false, orderNumberAt_of_ne h0, hr]

theorem leadTimesAt_eq (hl : body.length = 4) (h0 : u8 body 0 = 0 ∨ u8 body 0 = 3) (h2 : u8 body 2 = 0 ∨ u8 body 2 = 3) :
    leadTimesAt body = some (if u8 body 0 = 0 then some (max 1 (min (u8 body 1) 90)) else none,
      if u8 body 2 = 0 then some (max 0 (min (u8 body 3) 30)) else none) := by
  obtain ⟨c1, hc1, hr1⟩ := valueAt_amended (val := u8 body 1) h0
  obtain ⟨c2, hc2, hr2⟩ := valueAt_amended (val := u8 body 3) h2
  simp only [leadTimesAt, hl, ne_eq, not_true, if_false, hc1, hr1, hc2, hr2, Option.bind_eq_bind, Option.bind_some,
    apply_ite (Option.map (clamp 1 90)), apply_ite (Option.map (clamp 0 30)), Option.map_some, Option.map_none, clamp]

/-- Settles O58, by `workTakeOrders_eq`, where distinct numbers name the records taken, and the cases of the other
three requests. -/
theorem supplyOrdersAreWorked : Obligations.SupplyOrdersAreWorked := by
  refine ⟨fun s port tag taken h hn ht => ?_, fun s port tag body h hl => ⟨fun h0 => ?_, fun h0 hno => ?_,
      fun r h0 hr hk hn => ?_⟩, fun s port tag body h hl => ⟨fun h0 => ?_, fun h0 hno => ?_, fun r h0 hr hk hn => ?_⟩,
    fun s port tag body lead safety h hl hlead hsafety => ?_⟩
  · have hwork := workTakeOrders_eq (s := s.begun port .takeOrders tag) hn ht.symm
    refine (exec_accepted (r := .takeOrders) h hwork).trans (congrArg (fun b => Host.Outcome.next
      (State.acceptedWith _ port .takeOrders tag (_ ++ List.flatten b))) (List.map_congr_left fun r _ => ?_))
    refine Reorder.record_eq ?_
    unfold Reorder.carriedRef
    cases r.state.isOpen <;> cases r.orderRef <;> rfl
  · exact exec_refused (r := .confirmOrder) h (workConfirmOrder_malformed h0)
  · exact exec_refused (r := .confirmOrder) h (workConfirmOrder_noSuch hl h0 hno)
  · have hnamed := workConfirmOrder_named (s := s.begun port .confirmOrder tag) hl h0 (hk ▸ State.reorder_of_mem hn hr)
    exact ⟨fun hs => exec_refused (r := .confirmOrder) h (hnamed.trans (if_neg hs)),
      fun hs => exec_accepted (r := .confirmOrder) h (hnamed.trans (if_pos hs))⟩
  · exact exec_refused (r := .cancelOrder) h (workCancelOrder_malformed h0)
  · exact exec_refused (r := .cancelOrder) h (workCancelOrder_noSuch hl h0 hno)
  · have hnamed := workCancelOrder_named (s := s.begun port .cancelOrder tag) hl h0 (hk ▸ State.reorder_of_mem hn hr)
    exact ⟨fun hs => exec_refused (r := .cancelOrder) h (hnamed.trans (if_neg (Bool.eq_false_iff.mp hs))),
      fun hs => exec_accepted (r := .cancelOrder) h (hnamed.trans (if_pos hs))⟩
  · have htimes := leadTimesAt_eq hl (hlead.imp And.left And.left) (hsafety.imp And.left And.left)
    have hl' : (if u8 body 0 = 0 then some (max 1 (min (u8 body 1) 90)) else none).getD s.leadDays = lead := by
      obtain ⟨h0, rfl⟩ | ⟨h0, rfl⟩ := hlead <;> simp [h0]
    have hs' : (if u8 body 2 = 0 then some (max 0 (min (u8 body 3) 30)) else none).getD s.safetyDays = safety := by
      obtain ⟨h0, rfl⟩ | ⟨h0, rfl⟩ := hsafety <;> simp [h0]
    subst hl' hs'
    refine exec_accepted (r := .setLeadTime) h ?_
    change workSetLeadTime body (s.begun port .setLeadTime tag) = _
    simp only [workSetLeadTime, htimes]
    rfl

end Sys2Proof.Machine
end


section
/-! SUPPORT. CONDITION reports: codes raised and cleared, and the stop effects (R127, R152 to R155, R157, R165). -/

namespace Sys2Proof.Machine

variable {s t u v : State} {p : PrinterNo} {e : Enrolled} {x : Slot} {h : Handle} {j : Job} {y : Callout}
  {c : ChannelNo} {k : PositionNo} {body : List Byte} {line cam noAnswer : Bool} {ans : ReportAnswer} {i : Nat}
  {cls : CondClass} {code : Byte}

theorem condClassOf_code (cls : CondClass) : condClassOf (condClassCode cls) = some cls := by
  cases cls <;> rfl

theorem condClassOf_eq_none {n : Nat} (hn : n = 0 ∨ 3 < n) : condClassOf n = none := by
  unfold condClassOf
  split
  case h_4 => rfl
  all_goals omega

/-- A CONDITION report, by its class and code. -/
theorem takeCondition_eq (h0 : u8 body 0 = condClassCode cls) (h1 : u8 body 1 = code.toNat) : takeCondition p body s
    = if cls = .service ∧ code = 255 then (s, .stale .malformed)
      else if code = 0 then (s.clearClass p cls, .taken) else (s.raiseCode p cls code false, .taken) := by
  have hcode : byteOf (u8 body 1) = code := by
    rw [h1]
    simp [byteOf]
  simp only [takeCondition, h0, condClassOf_code, hcode]
  rfl

theorem takeCondition_malformed (hn : u8 body 0 = 0 ∨ 3 < u8 body 0) : takeCondition p body s = (s, .stale .malformed) := by
  simp only [takeCondition, condClassOf_eq_none hn]

/-- What a CONDITION frame itself does: one of class SERVICE leaves NO ANSWER to its own rule (R29). -/
theorem State.heard_condition (he : s.printers.rd p = .enrolled e) (hl : body.length = 2)
    (h0 : u8 body 0 = condClassCode cls) : s.heard p (isServiceCondition 0x17 body)
      = if cls = .service then { s with positions := s.positions.wr p { s.positions.rd p with silence := some 20 } }
        else s.heard p false := by
  have hf : isServiceCondition 0x17 body = decide (cls = .service) := by
    rw [isServiceCondition, h0, hl]
    cases cls <;> rfl
  by_cases hc : cls = .service
  · rw [if_pos hc, hf, decide_eq_true hc, State.heard, State.enrolled_eq_some.mpr he]
    rfl
  · rw [if_neg hc, hf, decide_eq_false hc]

theorem exec_condition (h : s.Called c k) (hl : body.length = 2)
    (hu : s.heard (printerAt c k) (isServiceCondition 0x17 body) = u) (he : u.printers.rd (printerAt c k) = .enrolled e)
    (ht : takeCondition (printerAt c k) body u = (t, ans)) :
    exec (.condition c k body line) s = .next (t.endReport c k line (some ans)).serveChannels := by
  refine congrArg Host.Outcome.next (reportFrame_called h (by rw [hl]; decide) (by simp) ?_)
  rw [hu]
  exact (examineReport_taken (r := ⟨2, false, 0x17⟩) he rfl hl nofun).trans ht

/-! ### Codes raised (R152, R165) -/

theorem State.raiseCode_of_clear (he : s.printers.rd p = .enrolled e) (hz : e.codes.get cls = 0) :
    s.raiseCode p cls code noAnswer = ((s.setClass p e cls code (some (e.descriptor.grace.get cls))).handSlotEmpty p cls
      code).stopEffects p noAnswer := by
  simp only [State.raiseCode, State.enrolled_eq_some.mpr he, hz, if_true]

theorem State.raiseCode_of_same (he : s.printers.rd p = .enrolled e) (hz : e.codes.get cls ≠ 0)
    (hc : e.codes.get cls = code) : s.raiseCode p cls code noAnswer = s.handSlotEmpty p cls code := by
  simp only [State.raiseCode, State.enrolled_eq_some.mpr he]
  rw [if_neg hz, if_pos hc]

theorem State.raiseCode_of_other (he : s.printers.rd p = .enrolled e) (hz : e.codes.get cls ≠ 0)
    (hc : e.codes.get cls ≠ code) (hv : v = State.handSlotEmpty { s with
      printers := s.printers.wr p (.enrolled { e with codes := e.codes.set cls code }) } p cls code) :
    s.raiseCode p cls code noAnswer = (v.calloutTakesCode p cls code).stopEffects p noAnswer := by
  simp only [State.raiseCode, State.enrolled_eq_some.mpr he, hz, if_false, hc, State.setClass, PerClass.set_get, hv]
  rfl

theorem State.calloutTakesCode_of_uncleared (hy : s.callouts.rd (calloutNo p cls) = some y) (hs : y.state ≠ .cleared) :
    s.calloutTakesCode p cls code
      = s.setCallout p cls (some { y with code := code, reorder := s.linkedReorder p cls code }) := by
  have hc : s.callout p cls = some y := hy
  cases hst : y.state with
  | cleared => exact absurd hst hs
  | _ => simp only [State.calloutTakesCode, hc, hst]

theorem State.calloutTakesCode_of_cleared (hy : ∀ y, s.callouts.rd (calloutNo p cls) = some y → y.state = .cleared) :
    s.calloutTakesCode p cls code = s := by
  cases hc : s.callout p cls with
  | none => simp only [State.calloutTakesCode, hc]
  | some y => simp only [State.calloutTakesCode, hc, hy y hc]

theorem State.handSlotEmpty_callouts : (s.handSlotEmpty p cls code).callouts = s.callouts := by
  obtain ⟨xs, rs, m, ps, hf⟩ := s.handSlotEmpty_frame p cls code
  rw [hf]

theorem State.emptySlot_eq (he : s.printers.rd p = .enrolled e) (hx : e.slots[i]? = some x) :
    s.emptySlot p i = State.urgentTest { s with printers := s.printers.wr p (.enrolled { e with
      slots := e.slots.set i { x with
        remaining := 0, level := 0, daysToEmpty := if x.rate = 0 then 999 else 0 } }) } p i := by
  have hempty : x.emptied = { x with remaining := 0, level := 0, daysToEmpty := if x.rate = 0 then 999 else 0 } := by
    rw [Slot.emptied, daysOf, Nat.zero_div, Nat.zero_min]
  rw [State.emptySlot, (State.slot_of he).trans hx]
  dsimp only
  rw [State.setSlot_eq he, State.setPrinter, hempty]

/-! ### The stop effects (R153, R155, R157) -/

theorem State.stopJob_idle (ha : e.activeJob = none) : s.stopJob p e noAnswer = s := by
  simp only [State.stopJob, ha]

/-- What stopping does to the active job, by the state the job is in (Table 9.2). -/
theorem State.stopJob_active (ha : e.activeJob = some h) (hj : s.job h = some j) :
    (∀ cam timer, j.state = .granted p cam timer → s.stopJob p e noAnswer = s.conditionRehold p)
      ∧ (∀ cam, j.state = .printing p cam → s.stopJob p e noAnswer
        = if e.descriptor.resumable = true then s.suspend h j p cam e.descriptor.suspendLimit else s.conditionRehold p)
      ∧ (∀ cam timer, j.state = .suspended p cam timer →
        s.stopJob p e noAnswer = if noAnswer = true then s.conditionRehold p else s) := by
  have hat {cam : Bool} (hs : j.state.active = some (p, cam)) : s.activeAt h p = some j :=
    State.activeAt_eq_some.mpr ⟨hj, cam, hs⟩
  refine ⟨fun cam timer hs => ?_, fun cam hs => ?_, fun cam timer hs => ?_⟩
  · simp only [State.stopJob, ha, hat (cam := cam) (by rw [hs]; rfl), hs]
  · simp only [State.stopJob, ha, hat (cam := cam) (by rw [hs]; rfl), hs]
  · simp only [State.stopJob, ha, hat (cam := cam) (by rw [hs]; rfl), hs]

theorem State.stopEffects_eq (he : s.printers.rd p = .enrolled e) :
    s.stopEffects p noAnswer = (s.stopJob p e noAnswer).stopSession p := by
  simp only [State.stopEffects, State.enrolled_eq_some.mpr he]

/-- Settles O59, by the cases of `State.raiseCode` and of `State.stopJob`. -/
theorem conditionsAreRaisedAndCleared : Obligations.ConditionsAreRaisedAndCleared := by
  refine ⟨fun s u c k p body line e cls code hcall hp he hl h0 h1 hu => ?_,
    fun s c k body line e hcall he hl hn => ?_, fun s p cls code noAnswer e v he => ⟨State.raiseCode_of_clear he,
      State.raiseCode_of_same he, fun hz hc hv => ⟨fun y hy hs => ?_, fun hy => ?_⟩, State.clearClass_of_ne he,
      State.clearClass_of_zero he⟩, fun s p i e x hi he hx => ?_,
    fun s p noAnswer e he => ⟨s.stopJob p e noAnswer, ?_, State.stopJob_idle, fun h j ha hj => ?_⟩⟩
  · subst hp
    have hheard := (State.heard_condition he hl h0).trans hu.symm
    obtain ⟨codes, grace, he'⟩ := State.heard_enrolled (isServiceCondition 0x17 body) he
    rw [hheard] at he'
    have ht := takeCondition_eq (p := printerAt c k) (s := u) h0 h1
    refine ⟨fun hz => ?_, fun hz hn => ?_, fun hc h255 => ?_⟩
    · exact exec_condition hcall hl hheard he' (ht.trans ((if_neg fun hb => absurd (hb.2.symm.trans hz) (by decide)).trans
        (if_pos hz)))
    · exact exec_condition hcall hl hheard he' (ht.trans ((if_neg hn).trans (if_neg hz)))
    · exact exec_condition hcall hl hheard he' (ht.trans (if_pos ⟨hc, h255⟩))
  · obtain ⟨codes, grace, he'⟩ := State.heard_enrolled false he
    have hf : isServiceCondition 0x17 body = false := by
      simp only [isServiceCondition, Bool.and_eq_false_iff, decide_eq_false_iff_not]
      exact .inr (by omega)
    exact exec_condition hcall hl (by rw [hf]) he' (takeCondition_malformed hn)
  · have hcall : v.callouts.rd (calloutNo p cls) = some y := by
      rw [hv, State.handSlotEmpty_callouts]
      exact hy
    rw [State.raiseCode_of_other he hz hc hv, State.calloutTakesCode_of_uncleared hcall hs]
  · rw [State.raiseCode_of_other he hz hc hv, State.calloutTakesCode_of_cleared]
    rw [hv, State.handSlotEmpty_callouts]
    exact hy
  · rw [State.handSlotEmpty, slotEmptyOf_ofNat hi]
    exact State.emptySlot_eq he hx
  · refine (State.stopEffects_eq he).trans ?_
    cases hx : (s.stopJob p e noAnswer).sessions.rd p with
    | none => simp only [State.stopSession, hx]
    | some x => simp only [State.stopSession, hx]
  · obtain ⟨hgranted, hprinting, hsuspended⟩ := State.stopJob_active (p := p) (noAnswer := noAnswer) ha hj
    refine ⟨hgranted, fun cam hs hr => ?_, fun cam hs hr => ?_, hsuspended⟩
    · rw [hprinting cam hs, if_pos hr, State.suspend, State.setJob_of_job hj]
    · rw [hprinting cam hs, if_neg (by simp [hr])]

end Sys2Proof.Machine
end
